-- ==== Sys2Proof/Word.lean ====
section
/-! DEFINITION. The word types of the register port (spec/20_memory.md R83, R87). -/

namespace Sys2Proof

/-- A register value: every access moves one whole 32-bit word (R83). -/
abbrev Word := BitVec 32

/-- A byte: a data byte on the I2C bus, or one byte lane of a word. -/
abbrev Byte := BitVec 8

/-- A byte offset in the 256-byte register window (R80, R81). -/
abbrev Offset := BitVec 8

/-- A row number of the micro-program, the width of `upc` (spec/10_state.md R44). -/
abbrev Row := BitVec 6

end Sys2Proof
end

