-- ==== Sys2Proof/Agents.lean ====
section
/-! DEFINITION. What the agents outside the core say to it (spec/00_scope.md R6): the outcomes the bus can answer with,
the lines of a host program, and the turns of the agents. -/

namespace Sys2Proof

/-- The outcomes of a primitive (spec/40_i2c_master.md R157). `timeout` is the one that the core's own counter
brings about (R170). -/
inductive BusOutcome where
  | ok
  | ack
  | nack
  | byte (b : Byte)
  | arb
  | timeout
  | stall
deriving DecidableEq, Repr, Inhabited

/-- One turn of an agent: a host access, one core clock cycle in which the bus answers or does not, or one rising
clock edge with `rst` = 1 (R6, R156, R320; log entry 1). -/
inductive Turn where
  | host
  | clock (answer : Option BusOutcome)
  | rst
deriving DecidableEq, Repr, Inhabited

/-- The pseudo-instructions a host program may use (spec/30_encoding.md R120 to R127). The arguments are plain
numbers, so that the ones the spec refuses can be written down. -/
inductive HostCall where
  | i2cWait
  | i2cInit (hz : Nat)
  | i2cStart
  | i2cAddrW (a : Nat)
  | i2cAddrR (a : Nat)
  | i2cWrite (b : Byte)
  | i2cRead (ack : Bool)
  | i2cStop
  | sensorReadStatus
  | sensorInit
  | sensorMeasure
deriving DecidableEq, Repr

/-- One line of a host program (R117): `WR`, `RD`, `POLL`, `DELAY n ms`, or a pseudo-instruction. -/
inductive HostLine where
  | wr (off : Offset) (v : Word)
  | rd (off : Offset)
  | poll (off : Offset) (mask value : Word)
  | delay (ms : Nat)
  | call (c : HostCall)
deriving DecidableEq, Repr

end Sys2Proof
end

