-- ==== Sys2Proof/Config.lean ====
section
/-! DEFINITION. What is fixed for the hardware (spec/00_scope.md R8), and the parameters a model takes as given (R10):
constants without a body, so that no proof can lean on a value of them. The free values that depend on the state are in
Machine/Environment.lean. -/

namespace Sys2Proof.Config

/-- The sensor's 7-bit bus address (R8). -/
def sensorAddr : BitVec 7 := 0x38#7

/-- The address byte that opens a write to the sensor, (0x38<<1)|0 (R8). -/
def addrByteW : Byte := 0x70#8

/-- The address byte that opens a read from the sensor, (0x38<<1)|1 (R8). -/
def addrByteR : Byte := 0x71#8

/-- The status-query command byte (R8). -/
def cmdStatus : Byte := 0x71#8

/-- The initialisation command byte; its parameters are `cmdInitParam` and `cmdLastParam` (R8). -/
def cmdInit : Byte := 0xBE#8

/-- The first parameter byte of the initialisation command (R8). -/
def cmdInitParam : Byte := 0x08#8

/-- The trigger-measurement command byte; its parameters are `cmdTriggerParam` and `cmdLastParam` (R8). -/
def cmdTrigger : Byte := 0xAC#8

/-- The first parameter byte of the trigger command (R8). -/
def cmdTriggerParam : Byte := 0x33#8

/-- The second parameter byte of both commands (R8). -/
def cmdLastParam : Byte := 0x00#8

/-- T_POWERON_MS (R8). -/
def tPowerOnMs : Nat := 40

/-- T_INIT_MS (R8). -/
def tInitMs : Nat := 10

/-- T_MEAS_MS (R8). -/
def tMeasMs : Nat := 80

/-- F_CORE_HZ less one, any natural number (R10; log entry 9). -/
opaque fCoreHzLessOne : Nat

/-- F_CORE_HZ, a positive integer (R10). -/
def fCoreHz : Nat := fCoreHzLessOne + 1

/-- CYCLES_PER_MS less one (log entry 9). The bound is R10's: 255 × CYCLES_PER_MS < 2^32 holds exactly for the
values 1 to 16843009. -/
opaque cyclesPerMsLessOne : Fin 16843009

/-- CYCLES_PER_MS, positive and with 255 × CYCLES_PER_MS < 2^32 (R10). -/
def cyclesPerMs : Nat := cyclesPerMsLessOne.val + 1

/-- SINGLE_MASTER (R10): when true the bus never answers "arbitration lost". -/
opaque singleMaster : Bool

/-- Which 256-byte page of the host's address space holds the window (R10; log entry 9). -/
opaque regBasePage : Nat

/-- REG_BASE, 256-byte-aligned (R10, spec/20_memory.md R81). -/
def regBase : Nat := 256 * regBasePage

end Sys2Proof.Config
end

