-- ==== Sys2Proof/Machine/State.lean ====
section
/-! DEFINITION. The state of the core and of the agents around it (spec/10_state.md), its reset value
(spec/70_reset_and_hazards.md R320), and the reasons a step can stop. -/

namespace Sys2Proof.Machine

/-- CSR.PHASE, the master's position in the current bus transaction (R36). -/
inductive Phase where
  | idle
  | started
  | tx
  | rx
  | rxend
deriving DecidableEq, Repr, Inhabited

/-- The BusStatusCode of STAT.STATUS (R40, spec/60_exceptions.md R271). -/
inductive BusStatus where
  | startSent
  | restartSent
  | slawAck
  | slawNack
  | dataTxAck
  | dataTxNack
  | arbLost
  | slarAck
  | slarNack
  | dataRxAck
  | dataRxNack
  | idle
  | busTimeout
  | illegal
deriving DecidableEq, Repr, Inhabited

/-- The error kind of RESULT.ERR (R45, spec/60_exceptions.md R280). -/
inductive ErrKind where
  | ok
  | addrNack
  | arbLost
  | busTimeout
  | busyTimeout
  | dataNack
  | rejected
deriving DecidableEq, Repr, Inhabited

/-- A bus primitive (spec/00_scope.md R13). -/
inductive Prim where
  | start
  | addr
  | write
  | read (ack : Bool)
  | stop
deriving DecidableEq, Repr, Inhabited

/-- Who issued the primitive in flight (R51). -/
inductive Origin where
  | host
  | seq
deriving DecidableEq, Repr, Inhabited

/-- `op_state` (R51). -/
inductive OpState where
  | idle
  | inFlight (p : Prim) (origin : Origin)
  | stalled
deriving DecidableEq, Repr, Inhabited

/-- `seqkind`, the sequence now running (R57). -/
inductive SeqKind where
  | none
  | status
  | init
  | measure
deriving DecidableEq, Repr, Inhabited

/-- Six bytes in wire order: RAW0..RAW5 (R48), and the staging buffer buf[0..5] (R56). -/
structure Reading where
  b0 : Byte
  b1 : Byte
  b2 : Byte
  b3 : Byte
  b4 : Byte
  b5 : Byte
deriving DecidableEq, Repr, Inhabited

/-- The whole machine. INVENTORY.md lists each field with the rule that names it. -/
structure State where
  /-- CSR.BUSY (R33). -/
  busy : Bool
  /-- CSR.DONE (R34). -/
  done : Bool
  /-- CSR.OVR (R35). -/
  ovr : Bool
  /-- CSR.VALID (R37). -/
  valid : Bool
  /-- CSR.PHASE (R36). -/
  phase : Phase
  /-- CSR.UPC, the micro-program counter (R38, R44). -/
  upc : Row
  /-- STAT.STATUS (R40). -/
  status : BusStatus
  /-- DATA (R41). -/
  data : Byte
  /-- DIV (R42). -/
  div : Byte
  /-- CFG.BUSY_RETRIES (R43). -/
  busyRetries : BitVec 8
  /-- CFG.NACK_RETRIES (R43). -/
  nackRetries : BitVec 4
  /-- CFG.TIMEOUT_MS (R43). -/
  timeoutMs : BitVec 8
  /-- RESULT.ERR (R45). -/
  err : ErrKind
  /-- RESULT.ATTEMPTS (R46). -/
  attempts : BitVec 9
  /-- SSTAT (R47). -/
  sstat : Byte
  /-- RAW0..RAW5 (R48). -/
  raw : Reading
  /-- `op_state` (R51). -/
  opState : OpState
  /-- `tocnt` (R52). -/
  tocnt : BitVec 32
  /-- `waitcnt` (R53). -/
  waitcnt : BitVec 32
  /-- `nackcnt` (R54). -/
  nackcnt : BitVec 4
  /-- `txhead` (R55). -/
  txhead : Row
  /-- `buf[0..5]` (R56). -/
  buf : Reading
  /-- `seqkind` (R57). -/
  seqkind : SeqKind
  /-- `waiting` (R58). -/
  waiting : Bool
  /-- The port `rdata` after the last host read (spec/40_i2c_master.md R175; log entry 10). -/
  rdata : Word
  /-- The model's own: the lines of the host program still to run (log entry 11). -/
  host : List HostLine
  /-- The model's own: core clock cycles left of the host's DELAY (log entry 13). -/
  hostDelay : Nat
  /-- The model's own: the turns already settled (log entry 1). -/
  turns : List Turn
  /-- The model's own: how many turns have been taken, so that each free value is a fresh one (log entry 1). -/
  taken : Nat
deriving DecidableEq, Repr

/-- Six zero bytes (R48, R56). -/
def Reading.zero : Reading := { b0 := 0, b1 := 0, b2 := 0, b3 := 0, b4 := 0, b5 := 0 }

/-- The machine right after reset (R31, R51 to R58, spec/70_reset_and_hazards.md R320). The last five fields are the
model's own (log entries 10 and 11). -/
def State.reset : State :=
  { busy := false
    done := false
    ovr := false
    valid := false
    phase := .idle
    upc := 63#6
    status := .idle
    data := 0x00#8
    div := 0x00#8
    busyRetries := 9#8
    nackRetries := 3#4
    timeoutMs := 10#8
    err := .ok
    attempts := 0#9
    sstat := 0x00#8
    raw := Reading.zero
    opState := .idle
    tocnt := 0#32
    waitcnt := 0#32
    nackcnt := 0#4
    txhead := 0#6
    buf := Reading.zero
    seqkind := .none
    waiting := false
    rdata := 0#32
    host := []
    hostDelay := 0
    turns := []
    taken := 0 }

/-- The faults of the machine: none. The core raises no exception and takes no trap; every error is a value in STAT
and RESULT (spec/60_exceptions.md R270; log entry 17). -/
inductive Fault where
deriving DecidableEq, Repr

/-- Why a step has no meaning. The core itself never refuses: the last three are the refusals that the spec asks of a
model for host programs (spec/93_implementation_defined.md U1, U4, U18). -/
inductive Refusal where
  /-- Raised by an arm of exec whose instruction has no meaning yet; no arm raises it. Safe. -/
  | notModelled (mnemonic : String)
  /-- Raised by a host turn at `i2c.init f` when F_CORE_HZ / f < 16 or the divisor exceeds 255
  (spec/30_encoding.md R121). Safe: nothing is claimed of such a program. -/
  | divisorOutOfRange
  /-- Raised by a host turn at `i2c.addr_w a` or `i2c.addr_r a` with a > 127 (spec/30_encoding.md R123). Safe. -/
  | addressAbove127
  /-- Raised when a program of several callers is loaded in which one caller's primitives fall between another
  caller's START and STOP (spec/60_exceptions.md R293). Safe. -/
  | interleavedTransaction
deriving DecidableEq, Repr

end Sys2Proof.Machine
end

