-- ==== Sys2Proof/Machine/Decoder.lean ====
section
/-! DEFINITION. The 40-bit packed-field decoder (spec/42_decoder.md): combinational functions of RAW1..RAW5. -/

namespace Sys2Proof.Machine

/-- humidity20 = raw[1]<<12 | raw[2]<<4 | raw[3][7:4] (R250). -/
def humidity20 (r : Reading) : BitVec 20 :=
  (r.b1.setWidth 20 <<< 12) ||| (r.b2.setWidth 20 <<< 4) ||| (r.b3.extractLsb' 4 4).setWidth 20

/-- temperature20 = raw[3][3:0]<<16 | raw[4]<<8 | raw[5] (R251). -/
def temperature20 (r : Reading) : BitVec 20 :=
  ((r.b3.extractLsb' 0 4).setWidth 20 <<< 16) ||| (r.b4.setWidth 20 <<< 8) ||| r.b5.setWidth 20

/-- humidityPercent = (humidity20 × 25) >> 18, computed exactly (R252, R255). -/
def humidityPercent (h : BitVec 20) : Nat := (h.toNat * 25) >>> 18

/-- temperatureCelsius = ((temperature20 × 25) >> 17) − 50, the subtraction signed (R253, R255). -/
def temperatureCelsius (t : BitVec 20) : Int := (((t.toNat * 25) >>> 17 : Nat) : Int) - 50

/-- The word HUM20 reads as (R250). -/
def hum20Word (r : Reading) : Word := (humidity20 r).setWidth 32

/-- The word TEMP20 reads as (R251). -/
def temp20Word (r : Reading) : Word := (temperature20 r).setWidth 32

/-- The word HUM_PCT reads as (R252). -/
def humPctWord (r : Reading) : Word := BitVec.ofNat 32 (humidityPercent (humidity20 r))

/-- The word TEMP_C reads as, 32-bit two's complement (R253). -/
def tempCWord (r : Reading) : Word := BitVec.ofInt 32 (temperatureCelsius (temperature20 r))

/-- The inverse packing of R257: the reading whose packed field holds a humidity and a temperature fraction. Byte 0
does not enter the decoder. -/
def packReading (b0 : Byte) (h t : BitVec 20) : Reading :=
  { b0 := b0
    b1 := h.extractLsb' 12 8
    b2 := h.extractLsb' 4 8
    b3 := ((h.extractLsb' 0 4).setWidth 8 <<< 4) ||| (t.extractLsb' 16 4).setWidth 8
    b4 := t.extractLsb' 8 8
    b5 := t.extractLsb' 0 8 }

end Sys2Proof.Machine
end

