-- ==== Sys2Proof/Machine/Flags.lean ====
section
/-! DEFINITION. The flags and the coded fields of the status registers: the bits of PHASE, STATUS and ERR, and the
words that CSR, STAT, CFG and RESULT read as (spec/10_state.md R31 to R46, spec/60_exceptions.md R271, R280). -/

namespace Sys2Proof.Machine

/-- The value of CSR.PHASE (R36). Values 5, 6 and 7 are never held. -/
def Phase.code (p : Phase) : BitVec 3 :=
  match p with
  | .idle => 0#3
  | .started => 1#3
  | .tx => 2#3
  | .rx => 3#3
  | .rxend => 4#3

/-- The value of STAT.STATUS (spec/60_exceptions.md R271; log entry 19). -/
def BusStatus.code (st : BusStatus) : Byte :=
  match st with
  | .startSent => 0x08#8
  | .restartSent => 0x10#8
  | .slawAck => 0x18#8
  | .slawNack => 0x20#8
  | .dataTxAck => 0x28#8
  | .dataTxNack => 0x30#8
  | .arbLost => 0x38#8
  | .slarAck => 0x40#8
  | .slarNack => 0x48#8
  | .dataRxAck => 0x50#8
  | .dataRxNack => 0x58#8
  | .idle => 0xF8#8
  | .busTimeout => 0xE0#8
  | .illegal => 0x00#8

/-- The value of RESULT.ERR (spec/60_exceptions.md R280). Values 7 to 15 are never held (R45). -/
def ErrKind.code (e : ErrKind) : BitVec 4 :=
  match e with
  | .ok => 0#4
  | .addrNack => 1#4
  | .arbLost => 2#4
  | .busTimeout => 3#4
  | .busyTimeout => 4#4
  | .dataNack => 5#4
  | .rejected => 6#4

/-- The word CSR reads as: BUSY in bit 0, DONE 1, OVR 2, VALID 3, PHASE [6:4], UPC [13:8]; bits [7] and [31:14] are
reserved and read 0 (R33 to R39). -/
def csrWord (s : State) : Word :=
  0#18 ++ s.upc ++ 0#1 ++ s.phase.code ++ BitVec.ofBool s.valid ++ BitVec.ofBool s.ovr ++ BitVec.ofBool s.done
    ++ BitVec.ofBool s.busy

/-- The word STAT reads as: STATUS in bits [7:0] (R40). -/
def statWord (s : State) : Word := s.status.code.setWidth 32

/-- The word CFG reads as: BUSY_RETRIES [7:0], NACK_RETRIES [11:8], TIMEOUT_MS [23:16] (R43). -/
def cfgWord (s : State) : Word := 0#8 ++ s.timeoutMs ++ 0#4 ++ s.nackRetries ++ s.busyRetries

/-- The word RESULT reads as: ERR [3:0], ATTEMPTS [16:8] (R45, R46). -/
def resultWord (s : State) : Word := 0#15 ++ s.attempts ++ 0#4 ++ s.err.code

/-- The sensor's busy flag, bit 7 of its status byte (spec/00_scope.md R8, R50). -/
def sensorBusy (b : Byte) : Bool := b.getLsbD 7

/-- The sensor's calibrated flag, bit 3 of its status byte (spec/00_scope.md R8, R50). -/
def sensorCalibrated (b : Byte) : Bool := b.getLsbD 3

end Sys2Proof.Machine
end

