-- ==== Sys2Proof/Machine/Operands.lean ====
section
/-! DEFINITION. The operand forms: the slot an offset selects, the byte an ADDR or WRITE sends, the fields of the
values written to CSR and CFG, and the bytes of a reading (spec/10_state.md, spec/20_memory.md, spec/30_encoding.md). -/

namespace Sys2Proof.Machine

/-- The word slot an offset selects: offset[7:2], the two low bits ignored (spec/20_memory.md R81, R84, R87). -/
def slotOf (off : Offset) : BitVec 6 := off.extractLsb' 2 6

/-- The 7-bit target address of the byte an ADDR sends, DATA[7:1] (spec/30_encoding.md R113). -/
def targetAddr (b : Byte) : BitVec 7 := b.extractLsb' 1 7

/-- The direction of the byte an ADDR sends, DATA[0]: true is read (spec/30_encoding.md R113). -/
def dirRead (b : Byte) : Bool := b.getLsbD 0

/-- Bits [7:0] of a written word: DATA, DIV, RAWk and CFG.BUSY_RETRIES (spec/10_state.md R41, R42, R43, R48). -/
def lowByte (v : Word) : Byte := v.extractLsb' 0 8

/-- CFG.NACK_RETRIES of a written word, bits [11:8] (spec/10_state.md R43). -/
def cfgNackRetries (v : Word) : BitVec 4 := v.extractLsb' 8 4

/-- CFG.TIMEOUT_MS of a written word, bits [23:16] (spec/10_state.md R43). -/
def cfgTimeoutMs (v : Word) : BitVec 8 := v.extractLsb' 16 8

/-- Whether a word written to CSR clears OVR, its bit 2 (spec/10_state.md R35). -/
def csrClearsOvr (v : Word) : Bool := v.getLsbD 2

/-- Byte k of a reading, in wire order (spec/10_state.md R48, spec/20_memory.md R85). -/
def Reading.get (r : Reading) (k : Fin 6) : Byte :=
  match k with
  | 0 => r.b0
  | 1 => r.b1
  | 2 => r.b2
  | 3 => r.b3
  | 4 => r.b4
  | 5 => r.b5

/-- A reading with byte k replaced. -/
def Reading.set (r : Reading) (k : Fin 6) (b : Byte) : Reading :=
  match k with
  | 0 => { r with b0 := b }
  | 1 => { r with b1 := b }
  | 2 => { r with b2 := b }
  | 3 => { r with b3 := b }
  | 4 => { r with b4 := b }
  | 5 => { r with b5 := b }

/-- The names of the registers (spec/10_state.md R31). -/
inductive Reg where
  | cmd | csr | stat | data | div | cfg | result | sstat
  | raw0 | raw1 | raw2 | raw3 | raw4 | raw5
  | hum20 | temp20 | humPct | tempC
deriving DecidableEq, Repr

/-- The offset of a register (spec/10_state.md R31). -/
def Reg.offset (r : Reg) : Offset :=
  match r with
  | .cmd => 0x00#8
  | .csr => 0x04#8
  | .stat => 0x08#8
  | .data => 0x0C#8
  | .div => 0x10#8
  | .cfg => 0x14#8
  | .result => 0x18#8
  | .sstat => 0x1C#8
  | .raw0 => 0x20#8
  | .raw1 => 0x24#8
  | .raw2 => 0x28#8
  | .raw3 => 0x2C#8
  | .raw4 => 0x30#8
  | .raw5 => 0x34#8
  | .hum20 => 0x38#8
  | .temp20 => 0x3C#8
  | .humPct => 0x40#8
  | .tempC => 0x44#8

/-- The register in a slot; none for the unmapped slots 0x48 to 0xFC (spec/20_memory.md R81, R86). -/
def regOfSlot (slot : BitVec 6) : Option Reg :=
  match slot.toNat with
  | 0 => some .cmd
  | 1 => some .csr
  | 2 => some .stat
  | 3 => some .data
  | 4 => some .div
  | 5 => some .cfg
  | 6 => some .result
  | 7 => some .sstat
  | 8 => some .raw0
  | 9 => some .raw1
  | 10 => some .raw2
  | 11 => some .raw3
  | 12 => some .raw4
  | 13 => some .raw5
  | 14 => some .hum20
  | 15 => some .temp20
  | 16 => some .humPct
  | 17 => some .tempC
  | _ => none

/-- The register an offset reaches (spec/20_memory.md R84, R87). -/
def regAt (off : Offset) : Option Reg := regOfSlot (slotOf off)

end Sys2Proof.Machine
end

