-- ==== Sys2Proof/Machine/Ops.lean ====
section
/-! DEFINITION. The named operations of the core: reading and writing a register (spec/20_memory.md), accepting and
completing a primitive (spec/40_i2c_master.md §1), the ends of a command that do not reach the bus, and the operations
a sequence is made of (spec/41_sequencer.md). The core takes no trap and has no trap return (spec/60_exceptions.md
R270, R284), so there is no exception entry here; an error is one of the writes to STATUS and ERR below. -/

namespace Sys2Proof.Machine

/-! ## Register reads and writes -/

/-- The value a register reads as (spec/10_state.md R31). Reading changes nothing (spec/20_memory.md R90). -/
def readReg (s : State) (r : Reg) : Word :=
  match r with
  | .cmd => 0#32
  | .csr => csrWord s
  | .stat => statWord s
  | .data => s.data.setWidth 32
  | .div => s.div.setWidth 32
  | .cfg => cfgWord s
  | .result => resultWord s
  | .sstat => s.sstat.setWidth 32
  | .raw0 => s.raw.b0.setWidth 32
  | .raw1 => s.raw.b1.setWidth 32
  | .raw2 => s.raw.b2.setWidth 32
  | .raw3 => s.raw.b3.setWidth 32
  | .raw4 => s.raw.b4.setWidth 32
  | .raw5 => s.raw.b5.setWidth 32
  | .hum20 => hum20Word s.raw
  | .temp20 => temp20Word s.raw
  | .humPct => humPctWord s.raw
  | .tempC => tempCWord s.raw

/-- `MemRead(off, 4)`: the register in slot off[7:2], or 0 for an unmapped slot (spec/20_memory.md R84, R86). -/
def memRead (s : State) (off : Offset) : Word :=
  match regAt off with
  | some r => readReg s r
  | none => 0#32

/-- A write dropped while BUSY = 1: OVR is set and nothing else changes (spec/20_memory.md R89). -/
def overrun (s : State) : State := { s with ovr := true }

/-- A write to CSR clears OVR if its bit 2 is 1 and does nothing else (spec/10_state.md R35, R39). -/
def writeCsr (v : Word) (s : State) : State := { s with ovr := s.ovr && !csrClearsOvr v }

/-- A write to DATA that is not dropped (spec/20_memory.md R91). -/
def writeData (v : Word) (s : State) : State := { s with data := lowByte v }

/-- A write to DIV that is not dropped (spec/20_memory.md R91). -/
def writeDiv (v : Word) (s : State) : State := { s with div := lowByte v }

/-- A write to CFG that is not dropped stores its three fields (spec/10_state.md R43). -/
def writeCfg (v : Word) (s : State) : State :=
  { s with busyRetries := lowByte v, nackRetries := cfgNackRetries v, timeoutMs := cfgTimeoutMs v }

/-- A write to RAWk that is not dropped stores bits [7:0] and clears VALID (spec/10_state.md R37, R48). -/
def writeRaw (k : Fin 6) (v : Word) (s : State) : State :=
  { s with raw := s.raw.set k (lowByte v), valid := false }

/-- A write that BUSY = 1 drops (spec/20_memory.md R89). -/
def unlessBusy (s s' : State) : State := if s.busy then overrun s else s'

/-- A write to any register but CMD (spec/20_memory.md R89, R91, R92). A write to CMD starts a command and is
dispatched by exec; here it changes nothing. -/
def writeReg (v : Word) (r : Reg) (s : State) : State :=
  match r with
  | .cmd => s
  | .csr => writeCsr v s
  | .data => unlessBusy s (writeData v s)
  | .div => unlessBusy s (writeDiv v s)
  | .cfg => unlessBusy s (writeCfg v s)
  | .raw0 => unlessBusy s (writeRaw 0 v s)
  | .raw1 => unlessBusy s (writeRaw 1 v s)
  | .raw2 => unlessBusy s (writeRaw 2 v s)
  | .raw3 => unlessBusy s (writeRaw 3 v s)
  | .raw4 => unlessBusy s (writeRaw 4 v s)
  | .raw5 => unlessBusy s (writeRaw 5 v s)
  | .stat | .result | .sstat | .hum20 | .temp20 | .humPct | .tempC => s

/-! ## Accepting a primitive -/

/-- The phases a primitive is legal in (spec/40_i2c_master.md R151). -/
def legal (p : Prim) (ph : Phase) : Bool :=
  match p, ph with
  | .start, .idle | .start, .tx | .start, .rxend => true
  | .addr, .started => true
  | .write, .tx => true
  | .read _, .rx => true
  | .stop, _ => true
  | _, _ => false

/-- The value `tocnt` is loaded with, CFG.TIMEOUT_MS × CYCLES_PER_MS (spec/10_state.md R52, R170). -/
def timeoutLoad (s : State) : BitVec 32 := BitVec.ofNat 32 (s.timeoutMs.toNat * Config.cyclesPerMs)

/-- Host acceptance of a legal primitive (spec/40_i2c_master.md R152). STATUS, PHASE and DATA do not change. -/
def acceptPrimitive (p : Prim) (s : State) : State :=
  { s with done := false, busy := true, opState := .inFlight p .host, tocnt := timeoutLoad s }

/-- An illegal or reserved command: STATUS ← 0x00, DONE ← 1, nothing else (spec/40_i2c_master.md R153,
spec/30_encoding.md R114). -/
def reportIllegal (s : State) : State := { s with status := .illegal, done := true }

/-- A STOP with no transaction: STATUS ← 0xF8, DONE ← 1, no bus action (spec/30_encoding.md R115 d). -/
def reportIdleStop (s : State) : State := { s with status := .idle, done := true }

/-- What a primitive's command word does: the cases b to e of R115, in their order (spec/30_encoding.md). -/
def commandPrimitive (p : Prim) (s : State) : State :=
  if s.busy then overrun s
  else if !legal p s.phase then reportIllegal s
  else if p = .stop ∧ s.phase = .idle then reportIdleStop s
  else acceptPrimitive p s

/-- What a reserved OP value does (spec/30_encoding.md R114, R115 b and c). -/
def commandReserved (s : State) : State :=
  if s.busy then overrun s else reportIllegal s

/-! ## Accepting a sequence -/

/-- The entry row of a sequence (spec/41_sequencer.md R201); no sequence is at row 63 (R44). -/
def SeqKind.entry (k : SeqKind) : Row :=
  match k with
  | .status => 0#6
  | .init => 9#6
  | .measure => 27#6
  | .none => 63#6

/-- A sequence command while a transaction is open: rejected (spec/41_sequencer.md R201). -/
def rejectSequence (s : State) : State := { s with status := .illegal, err := .rejected, done := true }

/-- Acceptance of a sequence; SEQ_MEASURE also clears ATTEMPTS and VALID (spec/41_sequencer.md R201). -/
def acceptSequence (k : SeqKind) (s : State) : State :=
  { s with
    done := false
    busy := true
    err := .ok
    nackcnt := 0#4
    seqkind := k
    attempts := if k = .measure then 0#9 else s.attempts
    valid := if k = .measure then false else s.valid
    upc := k.entry }

/-- What a sequence's command word does: the cases b, f and g of R115 (spec/30_encoding.md). -/
def commandSequence (k : SeqKind) (s : State) : State :=
  if s.busy then overrun s
  else if s.phase ≠ .idle then rejectSequence s
  else acceptSequence k s

/-! ## Completing a primitive -/

/-- One row of the completion table: the new STATUS and PHASE, and the byte received, if any (R158). -/
structure Completion where
  status : BusStatus
  phase : Phase
  received : Option Byte
deriving DecidableEq, Repr

/-- The completion table (spec/40_i2c_master.md R158), with `dir` for DATA[0] = 1. No row stands for an outcome the
table does not list (log entry 7); a stall completes nothing (R171). -/
def completionRow (p : Prim) (ph : Phase) (dir : Bool) (o : BusOutcome) : Option Completion :=
  match p, ph, o with
  | _, _, .timeout => some ⟨.busTimeout, .idle, none⟩
  | .start, .idle, .ok => some ⟨.startSent, .started, none⟩
  | .start, .tx, .ok | .start, .rxend, .ok => some ⟨.restartSent, .started, none⟩
  | .start, .tx, .arb | .start, .rxend, .arb => some ⟨.arbLost, .idle, none⟩
  | .addr, .started, .ack => some (if dir then ⟨.slarAck, .rx, none⟩ else ⟨.slawAck, .tx, none⟩)
  | .addr, .started, .nack => some (if dir then ⟨.slarNack, .rxend, none⟩ else ⟨.slawNack, .tx, none⟩)
  | .addr, .started, .arb => some ⟨.arbLost, .idle, none⟩
  | .write, .tx, .ack => some ⟨.dataTxAck, .tx, none⟩
  | .write, .tx, .nack => some ⟨.dataTxNack, .tx, none⟩
  | .write, .tx, .arb => some ⟨.arbLost, .idle, none⟩
  | .read ack, .rx, .byte b => some (if ack then ⟨.dataRxAck, .rx, some b⟩ else ⟨.dataRxNack, .rxend, some b⟩)
  | .read _, .rx, .arb => some ⟨.arbLost, .idle, none⟩
  | .stop, .started, .ok | .stop, .tx, .ok | .stop, .rx, .ok | .stop, .rxend, .ok => some ⟨.idle, .idle, none⟩
  | _, _, _ => none

/-- `Complete(p, o)`: writes STATUS, PHASE and DATA as the table says (spec/40_i2c_master.md R158). -/
def complete (p : Prim) (o : BusOutcome) (s : State) : State :=
  match completionRow p s.phase (dirRead s.data) o with
  | some c => { s with status := c.status, phase := c.phase, data := c.received.getD s.data }
  | none => s

/-- The outcomes the bus may answer a primitive with (spec/40_i2c_master.md R157). `single` is SINGLE_MASTER, `armed`
says that `tocnt` was loaded with a non-zero value. -/
def admits (single : Bool) (p : Prim) (ph : Phase) (armed : Bool) (o : BusOutcome) : Bool :=
  match p, ph, o with
  | _, _, .timeout => armed
  | _, _, .stall => !armed
  | .start, .idle, .ok | .start, .tx, .ok | .start, .rxend, .ok => true
  | .start, .tx, .arb | .start, .rxend, .arb => !single
  | .addr, .started, .ack | .addr, .started, .nack => true
  | .addr, .started, .arb => !single
  | .write, .tx, .ack | .write, .tx, .nack => true
  | .write, .tx, .arb => !single
  | .read _, .rx, .byte _ => true
  | .read _, .rx, .arb => !single
  | .stop, .started, .ok | .stop, .tx, .ok | .stop, .rx, .ok | .stop, .rxend, .ok => true
  | _, _, _ => false

/-- The bus's answer to the primitive in flight in one clock cycle. An answer that R157 does not admit is none at all
(log entry 4), and a timeout is the core's own doing, not the bus's (R170; log entry 5). -/
def busAnswer (p : Prim) (s : State) (answer : Option BusOutcome) : Option BusOutcome :=
  match answer with
  | some .timeout => none
  | some o => if admits Config.singleMaster p s.phase (s.tocnt ≠ 0#32) o then some o else none
  | none => none

/-- The update of `completeHost` beside the completion itself: BUSY falls and DONE rises (spec/40_i2c_master.md
R154). -/
def endHostPrimitive (s : State) : State := { s with opState := .idle, busy := false, done := true }

/-- Completion of a host-issued primitive (spec/40_i2c_master.md R154). -/
def completeHost (p : Prim) (o : BusOutcome) (s : State) : State := endHostPrimitive (complete p o s)

/-! ## What a sequence is made of -/

/-- `Issue(p)` from a micro-op (spec/40_i2c_master.md R155). -/
def issue (p : Prim) (s : State) : State := { s with opState := .inFlight p .seq, tocnt := timeoutLoad s }

/-- `upc <- r`. -/
def goto (r : Row) (s : State) : State := { s with upc := r }

/-- `upc <- upc + 1`. -/
def nextRow (s : State) : State := goto (s.upc + 1#6) s

/-- `err(k)`: RESULT.ERR keeps the first error (spec/41_sequencer.md R204, spec/10_state.md R45). -/
def setErr (k : ErrKind) (s : State) : State := if s.err = .ok then { s with err := k } else s

/-- An error path: `err(k); upc <- 62` (spec/41_sequencer.md R204, R217). -/
def abortWith (k : ErrKind) (s : State) : State := goto 62#6 (setErr k s)

/-- `Finish()` (spec/41_sequencer.md R221). -/
def finish (s : State) : State :=
  { s with
    valid := if s.seqkind = .measure ∧ s.err = .ok then true else s.valid
    seqkind := .none
    upc := 63#6
    busy := false
    done := true }

/-! ## Reset -/

/-- One rising clock edge with `rst` = 1: every register and every piece of hidden state takes its reset value
(spec/70_reset_and_hazards.md R320). The fields that are not the core's stay (log entry 12). -/
def resetCore (s : State) : State :=
  { State.reset with
    rdata := s.rdata, host := s.host, hostDelay := s.hostDelay, turns := s.turns, taken := s.taken }

end Sys2Proof.Machine
end

