-- ==== Sys2Proof/Machine/Rom.lean ====
section
/-! DEFINITION. The micro-program (spec/41_sequencer.md R203): a constant that neither the host nor the bus can write
(spec/20_memory.md R96). -/

namespace Sys2Proof.Machine

/-- A micro-op with its arguments (R203, R205 to R220). -/
inductive MicroOp where
  | start (head : Bool)
  | addr (a : Byte)
  | write (b : Byte)
  | read (k : Fin 6) (ack : Bool)
  | stop
  | wait (ms : Nat)
  | setstat
  | brcal (t : Row)
  | commit
  | brbusy (t : Row)
  | endSeq
  | retry
  | abort
deriving DecidableEq, Repr

/-- Rows 0 to 8: SEQ_STATUS (R203). -/
def romStatus : List MicroOp :=
  [.start true, .addr Config.addrByteW, .write Config.cmdStatus, .start false, .addr Config.addrByteR,
   .read 0 true, .stop, .setstat, .endSeq]

/-- Rows 9 to 26: SEQ_INIT (R203). -/
def romInit : List MicroOp :=
  [.wait Config.tPowerOnMs, .start true, .addr Config.addrByteW, .write Config.cmdStatus, .start false,
   .addr Config.addrByteR, .read 0 true, .stop, .setstat, .brcal 26#6,
   .start true, .addr Config.addrByteW, .write Config.cmdInit, .write Config.cmdInitParam,
   .write Config.cmdLastParam, .stop, .wait Config.tInitMs, .endSeq]

/-- Rows 27 to 45: SEQ_MEASURE (R203). -/
def romMeasure : List MicroOp :=
  [.start true, .addr Config.addrByteW, .write Config.cmdTrigger, .write Config.cmdTriggerParam,
   .write Config.cmdLastParam, .stop, .wait Config.tMeasMs,
   .start true, .addr Config.addrByteR, .read 0 true, .read 1 true, .read 2 true, .read 3 true, .read 4 true,
   .read 5 false, .stop, .commit, .brbusy 33#6, .endSeq]

/-- The rows 0 to 45 in order (R203). -/
def romRows : List MicroOp := romStatus ++ romInit ++ romMeasure

/-- The micro-op at a row: rows 0 to 45 of the ROM, and the internal rows 61 and 62. Rows 46 to 60 do not exist, and
63 means that no sequence is running (R203, spec/10_state.md R44). -/
def rom (r : Row) : Option MicroOp :=
  match r.toNat with
  | 61 => some .retry
  | 62 => some .abort
  | n => romRows[n]?

end Sys2Proof.Machine
end

