-- ==== Sys2Proof/Machine/Sequencer.lean ====
section
/-! DEFINITION. The sequencer: one definition for each micro-op (spec/41_sequencer.md R205 to R220), the status check
of a completed primitive (R204), and the sequencer's step (R202). -/

namespace Sys2Proof.Machine

/-- START, with h = 1 on the row that opens a transaction (R205). -/
def microStart (head : Bool) (s : State) : State :=
  issue .start (if head then { s with txhead := s.upc } else s)

/-- ADDR: `R[DATA] <- a; Issue(ADDR)` (R206). -/
def microAddr (a : Byte) (s : State) : State := issue .addr { s with data := a }

/-- WRITE: `R[DATA] <- b; Issue(WRITE)` (R207). -/
def microWrite (b : Byte) (s : State) : State := issue .write { s with data := b }

/-- READ: `Issue(READ(ack))`; the buffer is written when the expected status comes (R208). -/
def microRead (ack : Bool) (s : State) : State := issue (.read ack) s

/-- STOP: `Issue(STOP)`, or in phase IDLE STATUS ← 0xF8 and the next row, with no bus action (R209). -/
def microStop (s : State) : State :=
  if s.phase = .idle then nextRow { s with status := .idle } else issue .stop s

/-- The value `waitcnt` is loaded with, n × CYCLES_PER_MS (R210). -/
def waitLoad (ms : Nat) : BitVec 32 := BitVec.ofNat 32 (ms * Config.cyclesPerMs)

/-- WAIT, its first step (R210). -/
def microWait (ms : Nat) (s : State) : State := { s with waitcnt := waitLoad ms, waiting := true }

/-- One core clock cycle while waiting (R210). -/
def waitCycle (s : State) : State :=
  if s.waitcnt - 1#32 = 0#32 then nextRow { s with waitcnt := 0#32, waiting := false }
  else { s with waitcnt := s.waitcnt - 1#32 }

/-- SETSTAT: SSTAT takes buf[0] (R211). -/
def microSetstat (s : State) : State := nextRow { s with sstat := s.buf.b0 }

/-- BRCAL: skip to row t if the calibrated flag SSTAT[3] is set (R212). -/
def microBrcal (t : Row) (s : State) : State :=
  if sensorCalibrated s.sstat then goto t s else nextRow s

/-- COMMIT: RAW0..RAW5 take the six buffered bytes in one step, and ATTEMPTS counts the read (R213). -/
def microCommit (s : State) : State := nextRow { s with raw := s.buf, attempts := s.attempts + 1#9 }

/-- BRBUSY: while the sensor's busy flag RAW0[7] is set, re-read from row t within the budget, then BUSY_TIMEOUT
(R214, R215). -/
def microBrbusy (t : Row) (s : State) : State :=
  if sensorBusy s.raw.b0 then
    if s.attempts.toNat ≤ s.busyRetries.toNat then goto t s else abortWith .busyTimeout s
  else nextRow s

/-- END: `Finish()` (R216). -/
def microEnd (s : State) : State := finish s

/-- RETRY, row 61: STOP the open transaction, then restart at txhead (R218). -/
def microRetry (s : State) : State :=
  if s.phase ≠ .idle then issue .stop s else goto s.txhead s

/-- ABORT, row 62: STOP the open transaction, if any, then finish (R220). -/
def microAbort (s : State) : State :=
  if s.phase ≠ .idle then issue .stop s else finish s

/-- One micro-op (R202). -/
def execMicro (m : MicroOp) (s : State) : State :=
  match m with
  | .start head => microStart head s
  | .addr a => microAddr a s
  | .write b => microWrite b s
  | .read _ ack => microRead ack s
  | .stop => microStop s
  | .wait ms => microWait ms s
  | .setstat => microSetstat s
  | .brcal t => microBrcal t s
  | .commit => microCommit s
  | .brbusy t => microBrbusy t s
  | .endSeq => microEnd s
  | .retry => microRetry s
  | .abort => microAbort s

/-- The sequencer's step at `upc`; at row 63, and at the rows that do not exist, none is enabled (R202). -/
def sequencerStep (s : State) : State :=
  match rom s.upc with
  | some m => execMicro m s
  | none => s

/-- `expected(r)`: whether a STATUS is the one a micro-op's primitive should end with (R204). -/
def expectedStatus (m : MicroOp) (st : BusStatus) : Bool :=
  match m, st with
  | .start _, .startSent | .start _, .restartSent => true
  | .addr a, .slawAck => !dirRead a
  | .addr a, .slarAck => dirRead a
  | .write _, .dataTxAck => true
  | .read _ ack, .dataRxAck => ack
  | .read _ ack, .dataRxNack => !ack
  | .stop, .idle => true
  | _, _ => false

/-- `post(r)`: a READ's buffer write, else nothing (R204, R208). -/
def postAction (m : MicroOp) (s : State) : State :=
  match m with
  | .read k _ => { s with buf := s.buf.set k s.data }
  | .start _ | .addr _ | .write _ | .stop | .wait _ | .setstat | .brcal _ | .commit | .brbusy _ | .endSeq
  | .retry | .abort => s

/-- An address NACK: restart within the budget, then ADDR_NACK (R219). -/
def addressNack (s : State) : State :=
  if s.nackcnt.toNat < s.nackRetries.toNat then goto 61#6 { s with nackcnt := s.nackcnt + 1#4 }
  else abortWith .addrNack s

/-- The status check of a ROM row, with the new STATUS already in the state (R204). The last case is a status that no
row's primitive ends with (log entry 8). -/
def checkRow (m : MicroOp) (s : State) : State :=
  if expectedStatus m s.status then nextRow (postAction m s)
  else match s.status with
    | .slawNack | .slarNack => addressNack s
    | .dataTxNack => abortWith .dataNack s
    | .arbLost => abortWith .arbLost s
    | .busTimeout => abortWith .busTimeout s
    | .startSent | .restartSent | .slawAck | .dataTxAck | .slarAck | .dataRxAck | .dataRxNack | .idle | .illegal => s

/-- The status check of RETRY's STOP: restart at txhead, or BUS_TIMEOUT (R218). -/
def checkRetry (s : State) : State :=
  if s.status = .idle then goto s.txhead s else abortWith .busTimeout s

/-- The status check of ABORT's STOP: the sequence finishes, whatever the STOP's outcome (R220). -/
def checkAbort (s : State) : State :=
  finish (if s.status = .busTimeout then setErr .busTimeout s else s)

/-- The status check of the row at `upc` (R204, R218, R220). -/
def checkStatus (s : State) : State :=
  match rom s.upc with
  | some .retry => checkRetry s
  | some .abort => checkAbort s
  | some m => checkRow m s
  | none => s

/-- Completion of a primitive that a sequence issued: BUSY and DONE stay, and the status check follows in the same
step (spec/40_i2c_master.md R155). -/
def completeSeq (p : Prim) (o : BusOutcome) (s : State) : State :=
  checkStatus { complete p o s with opState := .idle }

end Sys2Proof.Machine
end

