-- ==== Sys2Proof/Machine/Cycle.lean ====
section
/-! DEFINITION. One core clock cycle: the core's step of that cycle is a completion, a timeout, a wait count or a
sequencer step (spec/60_exceptions.md R283; log entry 2). -/

namespace Sys2Proof.Machine

/-- Completion of the primitive in flight, by whoever issued it (spec/40_i2c_master.md R154, R155). -/
def completeInFlight (p : Prim) (origin : Origin) (o : BusOutcome) (s : State) : State :=
  match origin with
  | .host => completeHost p o s
  | .seq => completeSeq p o s

/-- The timeout counter counts down, if it was loaded with a non-zero value (spec/40_i2c_master.md R170). -/
def countTimeout (s : State) : State :=
  { s with tocnt := if s.tocnt = 0#32 then 0#32 else s.tocnt - 1#32 }

/-- A stall with the timeout disabled: only reset leaves it (spec/40_i2c_master.md R171). -/
def stallCore (s : State) : State := { s with opState := .stalled }

/-- A cycle with a primitive in flight: the bus's answer is applied if there is one, even in the cycle in which the
counter reaches 0 (R172); otherwise the counter's end completes the primitive with a timeout (R170). -/
def inFlightCycle (p : Prim) (origin : Origin) (answer : Option BusOutcome) (s : State) : State :=
  match busAnswer p s answer with
  | some .stall => stallCore (countTimeout s)
  | some o => completeInFlight p origin o (countTimeout s)
  | none =>
    if s.tocnt = 1#32 then completeInFlight p origin .timeout (countTimeout s) else countTimeout s

/-- The core's step of one clock cycle. In Stalled nothing is enabled (spec/10_state.md R51). -/
def coreCycle (answer : Option BusOutcome) (s : State) : State :=
  match s.opState with
  | .inFlight p origin => inFlightCycle p origin answer s
  | .stalled => s
  | .idle => if s.waiting then waitCycle s else sequencerStep s

/-- A core clock cycle passes for the host's DELAY (spec/30_encoding.md R117; log entry 13). -/
def countDelay (s : State) : State := { s with hostDelay := s.hostDelay - 1 }

/-- One core clock cycle. -/
def clockCycle (answer : Option BusOutcome) (s : State) : State := countDelay (coreCycle answer s)

/-- One clock cycle with `rst` = 1 (spec/70_reset_and_hazards.md R320). -/
def resetCycle (s : State) : State := countDelay (resetCore s)

end Sys2Proof.Machine
end

