-- ==== Sys2Proof/Machine/Environment.lean ====
section
/-! DEFINITION. The free values of the model: constants of Config without a body, applied to the state, whose counter
`taken` makes every use a fresh one. -/

namespace Sys2Proof

/-- The free environment (log entry 1): the next turn where State does not settle it. It says which agent moves and,
for a clock turn, what the bus answers: it stands for the parameter BUS (spec/00_scope.md R10, spec/40_i2c_master.md
R157) and for the interleaving that spec/20_memory.md R93 leaves open. -/
opaque Config.environment : Machine.State → Turn

/-- What the SCL driver does inside a primitive, which the spec does not say (spec/00_scope.md R5 f; log entry 15). -/
opaque Config.sclDrive : Machine.State → Bool

/-- What the SDA driver does inside a primitive, which the spec does not say (spec/00_scope.md R5 f; log entry 15). -/
opaque Config.sdaDrive : Machine.State → Bool

end Sys2Proof
end

