-- ==== Sys2Proof/Machine/Primitives.lean ====
section
/-! DEFINITION. The meanings of NOP and of the primitives START, ADDR, WRITE, READ and STOP as command words: what the
write to CMD does (spec/30_encoding.md R115, spec/40_i2c_master.md R160 to R165). An accepted primitive completes in a
later clock cycle (Machine/Cycle.lean). -/

namespace Sys2Proof.Machine

/-- NOP: no effect, even while BUSY = 1 (R160). -/
def execNop (s : State) : Host.Outcome State Fault Refusal := .next s

/-- START (R161). -/
def execStart (s : State) : Host.Outcome State Fault Refusal := .next (commandPrimitive .start s)

/-- ADDR: sends DATA, address and direction (R162). -/
def execAddr (s : State) : Host.Outcome State Fault Refusal := .next (commandPrimitive .addr s)

/-- WRITE: sends DATA (R163). -/
def execWrite (s : State) : Host.Outcome State Fault Refusal := .next (commandPrimitive .write s)

/-- READ: receives a byte and returns ACK or NACK as CMD.ACK says (R164). -/
def execRead (ack : Bool) (s : State) : Host.Outcome State Fault Refusal := .next (commandPrimitive (.read ack) s)

/-- STOP (R165). -/
def execStop (s : State) : Host.Outcome State Fault Refusal := .next (commandPrimitive .stop s)

end Sys2Proof.Machine
end

