-- ==== Sys2Proof/Machine/Reserved.lean ====
section
/-! DEFINITION. The meanings of the reserved OP values 0x6, 0x7 and 0xB to 0xF (spec/30_encoding.md R114). -/

namespace Sys2Proof.Machine

/-- OP = 0x6, reserved (R114). -/
def execReserved6 (s : State) : Host.Outcome State Fault Refusal := .next (commandReserved s)

/-- OP = 0x7, reserved (R114). -/
def execReserved7 (s : State) : Host.Outcome State Fault Refusal := .next (commandReserved s)

/-- OP = 0xB, reserved (R114). -/
def execReservedB (s : State) : Host.Outcome State Fault Refusal := .next (commandReserved s)

/-- OP = 0xC, reserved (R114). -/
def execReservedC (s : State) : Host.Outcome State Fault Refusal := .next (commandReserved s)

/-- OP = 0xD, reserved (R114). -/
def execReservedD (s : State) : Host.Outcome State Fault Refusal := .next (commandReserved s)

/-- OP = 0xE, reserved (R114). -/
def execReservedE (s : State) : Host.Outcome State Fault Refusal := .next (commandReserved s)

/-- OP = 0xF, reserved (R114). -/
def execReservedF (s : State) : Host.Outcome State Fault Refusal := .next (commandReserved s)

end Sys2Proof.Machine
end

