-- ==== Sys2Proof/Machine/Sequences.lean ====
section
/-! DEFINITION. The meanings of the sequence commands (spec/30_encoding.md R115, spec/41_sequencer.md R201, R222 to
R224): what the write to CMD does. An accepted sequence runs in later clock cycles (Machine/Cycle.lean). -/

namespace Sys2Proof.Machine

/-- SEQ_STATUS: read the sensor status byte (R222). -/
def execSeqStatus (s : State) : Host.Outcome State Fault Refusal := .next (commandSequence .status s)

/-- SEQ_INIT: initialise if needed (R223). -/
def execSeqInit (s : State) : Host.Outcome State Fault Refusal := .next (commandSequence .init s)

/-- SEQ_MEASURE: trigger and read (R224). -/
def execSeqMeasure (s : State) : Host.Outcome State Fault Refusal := .next (commandSequence .measure s)

end Sys2Proof.Machine
end

