-- ==== Sys2Proof/Syntax.lean ====
section
/-! DEFINITION. The command words of the core as syntax (spec/30_encoding.md R112): one constructor for each row of
spec/opcode_table.json. -/

namespace Sys2Proof

/-- A command (R112). Only READ has an operand, the acknowledge choice CMD.ACK (R113, R118). -/
inductive Instr where
  | nop
  | start
  | addr
  | write
  | read (ack : Bool)
  | stop
  | reserved6
  | reserved7
  | seqStatus
  | seqInit
  | seqMeasure
  | reservedB
  | reservedC
  | reservedD
  | reservedE
  | reservedF
deriving DecidableEq, Repr

end Sys2Proof
end

