-- ==== Sys2Proof/Machine/Dispatch.lean ====
section
/-! DEFINITION. What a command does when its word is written to CMD (spec/30_encoding.md R115): one arm per command. -/

namespace Sys2Proof.Machine

def exec (i : Instr) (s : State) : Host.Outcome State Fault Refusal :=
  match i with
  | .nop => Sys2Proof.Machine.execNop s
  | .start => Sys2Proof.Machine.execStart s
  | .addr => Sys2Proof.Machine.execAddr s
  | .write => Sys2Proof.Machine.execWrite s
  | .read ack => Sys2Proof.Machine.execRead ack s
  | .stop => Sys2Proof.Machine.execStop s
  | .reserved6 => Sys2Proof.Machine.execReserved6 s
  | .reserved7 => Sys2Proof.Machine.execReserved7 s
  | .seqStatus => Sys2Proof.Machine.execSeqStatus s
  | .seqInit => Sys2Proof.Machine.execSeqInit s
  | .seqMeasure => Sys2Proof.Machine.execSeqMeasure s
  | .reservedB => Sys2Proof.Machine.execReservedB s
  | .reservedC => Sys2Proof.Machine.execReservedC s
  | .reservedD => Sys2Proof.Machine.execReservedD s
  | .reservedE => Sys2Proof.Machine.execReservedE s
  | .reservedF => Sys2Proof.Machine.execReservedF s

end Sys2Proof.Machine
end

