-- ==== Sys2Proof/Decode.lean ====
section
/-! DEFINITION. Decoding a command word and encoding a command (spec/30_encoding.md R110, R112, R116, R118). -/

namespace Sys2Proof

/-- CMD.OP, bits [3:0] of a command word (R110). -/
def opField (w : Word) : BitVec 4 := w.extractLsb' 0 4

/-- CMD.ACK, bit [4] of a command word (R110). -/
def ackField (w : Word) : Bool := w.getLsbD 4

/-- The command a word stands for: OP alone decides it, plus ACK for READ (R110, R112). Total: every word is some
command (R116), and bits [31:5] are ignored. -/
def decode (w : Word) : Instr :=
  match (opField w).toNat with
  | 0x0 => .nop
  | 0x1 => .start
  | 0x2 => .addr
  | 0x3 => .write
  | 0x4 => .read (ackField w)
  | 0x5 => .stop
  | 0x6 => .reserved6
  | 0x7 => .reserved7
  | 0x8 => .seqStatus
  | 0x9 => .seqInit
  | 0xA => .seqMeasure
  | 0xB => .reservedB
  | 0xC => .reservedC
  | 0xD => .reservedD
  | 0xE => .reservedE
  | _   => .reservedF

/-- Why a run of bytes is no command word. -/
inductive DecodeError where
  /-- The bytes are not the four byte lanes of one 32-bit word: no other length exists (R110). Safe: nothing runs. -/
  | notOneWord (n : Nat)
deriving DecidableEq, Repr

/-- The word that four byte lanes carry: lane 0 is bits [7:0] (spec/20_memory.md R83). -/
def wordOfLanes (l0 l1 l2 l3 : Byte) : Word := l3 ++ l2 ++ l1 ++ l0

/-- The byte lanes of a word, lane 0 first (spec/20_memory.md R83). -/
def lanesOfWord (w : Word) : List Byte :=
  [w.extractLsb' 0 8, w.extractLsb' 8 8, w.extractLsb' 16 8, w.extractLsb' 24 8]

/-- Decoding the byte lanes of a host access. Any four bytes are a command; any other number is refused by name. -/
def decodeBytes (bs : List Byte) : Except DecodeError Instr :=
  match bs with
  | [l0, l1, l2, l3] => .ok (decode (wordOfLanes l0 l1 l2 l3))
  | _ => .error (.notOneWord bs.length)

/-- The OP value of a command (R112). -/
def opcodeOf (i : Instr) : BitVec 4 :=
  match i with
  | .nop => 0x0#4
  | .start => 0x1#4
  | .addr => 0x2#4
  | .write => 0x3#4
  | .read _ => 0x4#4
  | .stop => 0x5#4
  | .reserved6 => 0x6#4
  | .reserved7 => 0x7#4
  | .seqStatus => 0x8#4
  | .seqInit => 0x9#4
  | .seqMeasure => 0xA#4
  | .reservedB => 0xB#4
  | .reservedC => 0xC#4
  | .reservedD => 0xD#4
  | .reservedE => 0xE#4
  | .reservedF => 0xF#4

/-- The ACK bit of a command: READ's operand, and 0 where the bit is ignored (R110, R118). -/
def ackOf (i : Instr) : Bool :=
  match i with
  | .read ack => ack
  | .nop | .start | .addr | .write | .stop | .reserved6 | .reserved7 | .seqStatus | .seqInit | .seqMeasure
  | .reservedB | .reservedC | .reservedD | .reservedE | .reservedF => false

/-- The command word of a command, the ignored bits zero (R110, R118). -/
def encode (i : Instr) : Word := 0#27 ++ BitVec.ofBool (ackOf i) ++ opcodeOf i

/-- The bits of a word that its decoding reads: OP, and ACK for READ (R110). -/
def usedBits (i : Instr) : Word :=
  match i with
  | .read _ => 0x1F#32
  | .nop | .start | .addr | .write | .stop | .reserved6 | .reserved7 | .seqStatus | .seqInit | .seqMeasure
  | .reservedB | .reservedC | .reservedD | .reservedE | .reservedF => 0x0F#32

/-- The word whose low `nbits` bits are those of `w`, the bits above them zero. -/
def tableWord (nbits w : Nat) : Word := BitVec.ofNat 32 (w % 2 ^ nbits)

/-- The instruction the decoder reads from a row of spec/opcode_table.json given as a number: the word is laid out in
its byte lanes and the lanes are decoded. -/
def decodeTableWord (nbits w : Nat) : Option Instr :=
  (decodeBytes (lanesOfWord (tableWord nbits w))).toOption

end Sys2Proof
end

