-- ==== Sys2Proof/Machine/HostProgram.lean ====
section
/-! DEFINITION. Host programs (spec/30_encoding.md §3, §4): the expansions of the pseudo-instructions into register
accesses, the refusals the spec asks a model for, and the loading of a program of one or several callers. -/

namespace Sys2Proof.Machine

/-- `WR <reg>, v` (R117). -/
def wrReg (r : Reg) (v : Word) : HostLine := .wr r.offset v

/-- `RD <reg>` (R117). -/
def rdReg (r : Reg) : HostLine := .rd r.offset

/-- `WR CMD, <mnemonic>` (R117, R118). -/
def wrCmd (i : Instr) : HostLine := wrReg .cmd (encode i)

/-- The mask BUSY of CSR (R119). -/
def maskBusy : Word := 0x1#32

/-- The mask DONE of CSR (R119). -/
def maskDone : Word := 0x2#32

/-- `i2c.wait` is `POLL CSR, BUSY, 0` (R120). -/
def waitLine : HostLine := .poll Reg.csr.offset maskBusy 0#32

/-- The divisor of `i2c.init f`: (F_CORE_HZ / f − 16) / 2 in integer division; none where R121 forbids the call.
A target of 0 Hz has no quotient and is refused too (log entry 24). -/
def initDivisor (hz f : Nat) : Option Byte :=
  if 16 ≤ hz / f ∧ (hz / f - 16) / 2 ≤ 255 then some (BitVec.ofNat 8 ((hz / f - 16) / 2)) else none

/-- The address byte (a<<1)|dir, for a 7-bit address (R123). -/
def addressByte (a : Nat) (read : Bool) : Byte := BitVec.ofNat 7 a ++ BitVec.ofBool read

/-- The expansion of a pseudo-instruction (R120 to R127); `hz` is F_CORE_HZ. -/
def expand (hz : Nat) (c : HostCall) : Except Refusal (List HostLine) :=
  match c with
  | .i2cWait => .ok [waitLine]
  | .i2cInit f =>
    match initDivisor hz f with
    | some d => .ok [wrReg .div (d.setWidth 32)]
    | none => .error .divisorOutOfRange
  | .i2cStart => .ok [wrCmd .start, waitLine, rdReg .stat]
  | .i2cAddrW a =>
    if a ≤ 127 then .ok [wrReg .data ((addressByte a false).setWidth 32), wrCmd .addr, waitLine, rdReg .stat]
    else .error .addressAbove127
  | .i2cAddrR a =>
    if a ≤ 127 then .ok [wrReg .data ((addressByte a true).setWidth 32), wrCmd .addr, waitLine, rdReg .stat]
    else .error .addressAbove127
  | .i2cWrite b => .ok [wrReg .data (b.setWidth 32), wrCmd .write, waitLine, rdReg .stat]
  | .i2cRead ack => .ok [wrCmd (.read ack), waitLine, rdReg .data]
  | .i2cStop => .ok [wrCmd .stop]
  | .sensorReadStatus => .ok [wrCmd .seqStatus, waitLine, rdReg .result, rdReg .sstat]
  | .sensorInit => .ok [wrCmd .seqInit, waitLine, rdReg .result]
  | .sensorMeasure => .ok [wrCmd .seqMeasure, waitLine, rdReg .result, rdReg .humPct, rdReg .tempC]

/-- The core clock cycles of `DELAY n ms`: at least n ms at F_CORE_HZ cycles a second (R117; log entry 13). -/
def delayCycles (hz ms : Nat) : Nat := (ms * hz + 999) / 1000

/-- The commands a line writes to CMD, in order. -/
def lineCommands (hz : Nat) (l : HostLine) : List Instr :=
  match l with
  | .wr off v => if regAt off = some .cmd then [decode v] else []
  | .rd _ | .poll _ _ _ | .delay _ => []
  | .call c =>
    match expand hz c with
    | .ok ls => ls.filterMap fun l' =>
        match l' with
        | .wr off v => if regAt off = some .cmd then some (decode v) else none
        | .rd _ | .poll _ _ _ | .delay _ | .call _ => none
    | .error _ => []

/-- Whether a command is one of the primitives a host-built transaction is made of. -/
def isPrimitive (i : Instr) : Bool :=
  match i with
  | .start | .addr | .write | .read _ | .stop => true
  | .nop | .reserved6 | .reserved7 | .seqStatus | .seqInit | .seqMeasure | .reservedB | .reservedC | .reservedD
  | .reservedE | .reservedF => false

/-- Who owns the transaction after one command of `caller`, `owner` being the one who started it; none if the command
is another caller's primitive between the owner's START and STOP (spec/60_exceptions.md R293, 93 U1). -/
def ownerAfter (caller : Nat) (owner : Option Nat) (i : Instr) : Option (Option Nat) :=
  if isPrimitive i then
    match owner with
    | some o => if o = caller then some (if i = .stop then none else some o) else none
    | none => some (if i = .start then some caller else none)
  else some owner

/-- The owner after a list of commands of one caller. -/
def ownerAfterAll (caller : Nat) : Option Nat → List Instr → Option (Option Nat)
  | owner, [] => some owner
  | owner, i :: is =>
    match ownerAfter caller owner i with
    | some owner' => ownerAfterAll caller owner' is
    | none => none

/-- No caller's primitive stands between another caller's START and STOP (spec/70_reset_and_hazards.md R336). -/
def serialisedFrom (hz : Nat) : Option Nat → List (Nat × HostLine) → Bool
  | _, [] => true
  | owner, (caller, l) :: rest =>
    match ownerAfterAll caller owner (lineCommands hz l) with
    | some owner' => serialisedFrom hz owner' rest
    | none => false

/-- Loading a host program, each line with the caller it belongs to. The core has one register port and serves one
host, so the lines run as one program; a program the spec calls undefined is refused (spec/60_exceptions.md R293;
log entry 18). -/
def loadProgram (prog : List (Nat × HostLine)) (s : State) : Host.Outcome State Fault Refusal :=
  if serialisedFrom Config.fCoreHz none prog then .next { s with host := prog.map Prod.snd }
  else .refused .interleavedTransaction

end Sys2Proof.Machine
end

