-- ==== Sys2Proof/Machine/HostAgent.lean ====
section
/-! DEFINITION. The host's turn: the first line of its program (spec/30_encoding.md R117), one register access at most
(spec/20_memory.md R84, R93). -/

namespace Sys2Proof.Machine

/-- `MemWrite(off, 4, v)`: a write to CMD is decoded and run as a command (spec/30_encoding.md R115); a write to an
unmapped slot does nothing (spec/20_memory.md R84, R86). -/
def memWrite (off : Offset) (v : Word) (s : State) : Host.Outcome State Fault Refusal :=
  match regAt off with
  | some .cmd => exec (decode v) s
  | some r => .next (writeReg v r s)
  | none => .next s

/-- A host read: `rdata` takes the value, and the core does not change (spec/20_memory.md R90). -/
def hostRead (off : Offset) (s : State) : State := { s with rdata := memRead s off }

/-- One POLL access: the line stays until the value read has the bits it asks for (spec/30_encoding.md R117; log
entry 14). `rest` is the program after it. -/
def hostPoll (off : Offset) (mask value : Word) (rest : List HostLine) (s : State) : State :=
  if memRead s off &&& mask = value then { hostRead off s with host := rest } else hostRead off s

/-- The host's turn. Inside a DELAY, and at the end of its program, the host does nothing. -/
def hostTurn (s : State) : Host.Outcome State Fault Refusal :=
  if s.hostDelay ≠ 0 then .next s
  else match s.host with
    | [] => .next s
    | .wr off v :: rest => memWrite off v { s with host := rest }
    | .rd off :: rest => .next (hostRead off { s with host := rest })
    | .poll off mask value :: rest => .next (hostPoll off mask value rest s)
    | .delay ms :: rest => .next { s with host := rest, hostDelay := delayCycles Config.fCoreHz ms }
    | .call c :: rest =>
      match expand Config.fCoreHz c with
      | .ok ls => .next { s with host := ls ++ rest }
      | .error r => .refused r

end Sys2Proof.Machine
end

