-- ==== Sys2Proof/Machine/Step.lean ====
section
/-! DEFINITION. One step of the machine: one turn of one agent (spec/00_scope.md R6, spec/20_memory.md R93). -/

namespace Sys2Proof.Machine

/-- The next turn, and the state with that turn taken: the first settled one, or one the free environment gives
(log entry 1). -/
def takeTurn (s : State) : Turn × State :=
  match s.turns with
  | t :: ts => (t, { s with turns := ts, taken := s.taken + 1 })
  | [] => (Config.environment s, { s with taken := s.taken + 1 })

/-- One agent's turn. -/
def runTurn (t : Turn) (s : State) : Host.Outcome State Fault Refusal :=
  match t with
  | .host => hostTurn s
  | .clock answer => .next (clockCycle answer s)
  | .rst => .next (resetCycle s)

/-- One step: the agent whose turn it is moves. -/
def step (s : State) : Host.Outcome State Fault Refusal := runTurn (takeTurn s).1 (takeTurn s).2

/-- `s` with a command word as the host's next line and the host's turn next, so that the very next step is that write
to CMD. -/
def State.withFetchWord (s : State) (nbits w : Nat) : State :=
  { s with
    host := .wr 0x00#8 (tableWord nbits w) :: s.host
    hostDelay := 0
    turns := .host :: s.turns }

end Sys2Proof.Machine
end

