-- ==== Sys2Proof/Machine/Ports.lean ====
section
/-! DEFINITION. What can be seen of the core from its ports: what stands on the bus, the line drivers, the SCL rate
(spec/40_i2c_master.md §4), and the document's names for the points of a sequence (spec/41_sequencer.md R225). -/

namespace Sys2Proof.Machine

/-- What the master does on the bus while a primitive is in flight (spec/40_i2c_master.md R161 to R165). -/
inductive BusAction where
  | start
  | repeatedStart
  | sendByte (b : Byte)
  | receiveByte (ack : Bool)
  | stop
deriving DecidableEq, Repr

/-- The bus action of the primitive in flight; none where the bus sees nothing. ADDR and WRITE send DATA (R162,
R163). -/
def onBus (s : State) : Option BusAction :=
  match s.opState with
  | .inFlight .start _ => some (if s.phase = .idle then .start else .repeatedStart)
  | .inFlight .addr _ => some (.sendByte s.data)
  | .inFlight .write _ => some (.sendByte s.data)
  | .inFlight (.read ack) _ => some (.receiveByte ack)
  | .inFlight .stop _ => some .stop
  | .idle | .stalled => none

/-- The master has released both lines: no transaction is open and none is being opened (spec/10_state.md R36,
spec/40_i2c_master.md R166, R170, spec/70_reset_and_hazards.md R320). -/
def linesReleased (s : State) : Bool := decide (s.opState = .idle ∧ s.phase = .idle)

/-- The port scl_oe: 0 while the lines are released, else a free value (R173, R175; log entry 15). -/
def sclOe (s : State) : Bool := if linesReleased s then false else Config.sclDrive s

/-- The port sda_oe: 0 while the lines are released, else a free value (R173, R175; log entry 15). -/
def sdaOe (s : State) : Bool := if linesReleased s then false else Config.sdaDrive s

/-- f_SCL = F_CORE_HZ / (16 + 2 × DIV), in Hz (R174). No other rule reads it. -/
def sclRate (hz : Nat) (div : Byte) : Rat := (hz : Rat) / ((16 + 2 * div.toNat : Nat) : Rat)

/-- The address of a register in the host's address space, REG_BASE + offset (spec/20_memory.md R81). -/
def hostAddress (r : Reg) : Nat := Config.regBase + r.offset.toNat

/-- The states of the document's transaction cycle (spec/41_sequencer.md R200, R225). -/
inductive DocState where
  | idle
  | startWrite
  | addressAcked
  | commandsSent
  | stopped
  | startRead
  | addressAckedRead
  | bytesReceiving
  | done
deriving DecidableEq, Repr

/-- The document's state that a row of the micro-program stands for, given the status its primitive ended with (R225).
Rows 6, 16, 18 and 42 to 44 and the rows 61 and 62 have no name in the document. -/
def docState (r : Row) (st : BusStatus) : Option DocState :=
  match r.toNat with
  | 63 => some .idle
  | 0 | 10 | 19 | 27 => some .startWrite
  | 1 | 11 | 20 | 28 => if st = .slawAck then some .addressAcked else none
  | 2 | 12 | 23 | 31 => if st = .dataTxAck then some .commandsSent else none
  | 24 | 25 | 32 | 33 => some .stopped
  | 3 | 13 | 34 => some .startRead
  | 4 | 14 | 35 => if st = .slarAck then some .addressAckedRead else none
  | 5 | 15 | 36 | 37 | 38 | 39 | 40 | 41 => some .bytesReceiving
  | 8 | 26 | 45 => some .done
  | _ => none

end Sys2Proof.Machine
end

