-- ==== Sys2Proof/Safety.lean ====
section
/-! DEFINITION. What a coherent state of the core is: the relations between BUSY, PHASE, `upc`, `op_state` and the rest
of the hidden state that the spec states or derives. Each is a Bool, so that it can be decided of a given state. -/

namespace Sys2Proof.Machine

/-- A sequence is running (spec/10_state.md R57). -/
def running (s : State) : Bool := s.seqkind ≠ .none

/-- A primitive is in flight (spec/10_state.md R51). -/
def inFlight (s : State) : Bool :=
  match s.opState with
  | .inFlight _ _ => true
  | .idle | .stalled => false

/-- BUSY is 1 from the acceptance of a primitive or sequence until its completion, and 0 otherwise (spec/10_state.md
R33, R51). -/
def busyCoherent (s : State) : Bool := s.busy == (decide (s.opState ≠ .idle) || running s)

/-- DONE = 1 only when nothing is running: acceptance clears it (spec/10_state.md R34). -/
def doneCoherent (s : State) : Bool := !(s.done && s.busy)

/-- `upc` = 63 exactly when no sequence is running, and then no wait is pending (spec/10_state.md R38, R44, R57). -/
def idleCoherent (s : State) : Bool := (running s == decide (s.upc ≠ 63#6)) && (running s || !s.waiting)

/-- The rows a sequence may be at (spec/41_sequencer.md R203): its own rows, RETRY and ABORT. -/
def rowOfKind (k : SeqKind) (r : Row) : Bool :=
  match k with
  | .none => decide (r = 63#6)
  | .status => decide (r.toNat ≤ 8 ∨ r = 61#6 ∨ r = 62#6)
  | .init => decide ((9 ≤ r.toNat ∧ r.toNat ≤ 26) ∨ r = 61#6 ∨ r = 62#6)
  | .measure => decide ((27 ≤ r.toNat ∧ r.toNat ≤ 45) ∨ r = 61#6 ∨ r = 62#6)

/-- The phase a row is entered with (spec/41_sequencer.md R205, R209, R214, R218): on the path of a transaction the
phase its last completion left (R158), between transactions IDLE. -/
def phaseAtRow (r : Row) (ph : Phase) : Bool :=
  match r.toNat with
  | 0 | 7 | 8 | 9 | 10 | 17 | 18 | 19 | 25 | 26 | 27 | 33 | 34 | 43 | 44 | 45 => decide (ph = .idle)
  | 1 | 4 | 11 | 14 | 20 | 28 | 35 => decide (ph = .started)
  | 2 | 3 | 12 | 13 | 21 | 22 | 23 | 24 | 29 | 30 | 31 | 32 => decide (ph = .tx)
  | 5 | 6 | 15 | 16 | 36 | 37 | 38 | 39 | 40 | 41 => decide (ph = .rx)
  | 42 => decide (ph = .rxend)
  | 61 => decide (ph = .tx ∨ ph = .rxend)
  | 62 => decide (ph = .idle ∨ ph = .tx ∨ ph = .rxend)
  | _ => false

/-- Inside a transaction `txhead` is the row of the START that opened it (spec/10_state.md R55, spec/41_sequencer.md
R205); at RETRY it is such a row of the running sequence (R218). -/
def headAtRow (k : SeqKind) (r head : Row) : Bool :=
  match r.toNat with
  | 1 | 2 | 3 | 4 | 5 | 6 => decide (head = 0#6)
  | 11 | 12 | 13 | 14 | 15 | 16 => decide (head = 10#6)
  | 20 | 21 | 22 | 23 | 24 => decide (head = 19#6)
  | 28 | 29 | 30 | 31 | 32 => decide (head = 27#6)
  | 35 | 36 | 37 | 38 | 39 | 40 | 41 | 42 => decide (head = 34#6)
  | 61 =>
    match k with
    | .status => decide (head = 0#6)
    | .init => decide (head = 10#6 ∨ head = 19#6)
    | .measure => decide (head = 27#6 ∨ head = 34#6)
    | .none => false
  | _ => true

/-- A running sequence is at one of its rows, in the phase the row is entered with, with its transaction's opening
row remembered (spec/41_sequencer.md R203, R205, R218, R220). -/
def rowCoherent (s : State) : Bool :=
  !running s || (rowOfKind s.seqkind s.upc && phaseAtRow s.upc s.phase && headAtRow s.seqkind s.upc s.txhead)

/-- The primitive a micro-op issues, with DATA holding the byte it sends (spec/41_sequencer.md R205 to R209, R218,
R220). -/
def issuedBy (m : MicroOp) (p : Prim) (data : Byte) : Bool :=
  match m, p with
  | .start _, .start => true
  | .addr a, .addr => decide (data = a)
  | .write b, .write => decide (data = b)
  | .read _ ack, .read ack' => decide (ack = ack')
  | .stop, .stop | .retry, .stop | .abort, .stop => true
  | _, _ => false

/-- A primitive in flight is legal in the current phase and is no STOP in IDLE; one that a sequence issued is the one
of the micro-op at `upc` (spec/40_i2c_master.md R152, R155). -/
def flightCoherent (s : State) : Bool :=
  match s.opState with
  | .inFlight p .host => !running s && legal p s.phase && decide (¬ (p = .stop ∧ s.phase = .idle))
  | .inFlight p .seq =>
    running s && !s.waiting && legal p s.phase && decide (¬ (p = .stop ∧ s.phase = .idle))
      && (match rom s.upc with
          | some (.start true) => decide (p = .start ∧ s.txhead = s.upc)
          | some m => issuedBy m p s.data
          | none => false)
  | .idle | .stalled => true

/-- While waiting, the row is a WAIT, nothing is in flight, and the counter holds 1 to n × CYCLES_PER_MS
(spec/41_sequencer.md R210). -/
def waitCoherent (s : State) : Bool :=
  !s.waiting || (decide (s.opState = .idle)
    && (match rom s.upc with
        | some (.wait ms) => decide (0 < s.waitcnt.toNat ∧ s.waitcnt.toNat ≤ ms * Config.cyclesPerMs)
        | _ => false))

/-- ERR during a sequence: 0 until the first error, which goes to ABORT at once; REJECTED never, and BUSY_TIMEOUT only
in SEQ_MEASURE (spec/10_state.md R45, spec/41_sequencer.md R216, R220, spec/60_exceptions.md R281). -/
def errCoherent (s : State) : Bool :=
  !running s || (if s.upc = 62#6 then
      decide (s.err ≠ .ok ∧ s.err ≠ .rejected ∧ (s.err = .busyTimeout → s.seqkind = .measure))
    else decide (s.err = .ok))

/-- ATTEMPTS is at most 256, and at most BUSY_RETRIES + 1 in a SEQ_MEASURE, whose VALID is 0 until it finishes
(spec/10_state.md R37, R46, spec/41_sequencer.md R213, R215). -/
def attemptsCoherent (s : State) : Bool :=
  decide (s.attempts.toNat ≤ 256) && (decide (s.seqkind ≠ .measure) || (!s.valid
    && (if s.upc = 44#6 ∨ s.upc = 45#6 ∨ s.upc = 62#6 then decide (s.attempts.toNat ≤ s.busyRetries.toNat + 1)
        else decide (s.attempts.toNat ≤ s.busyRetries.toNat))))

/-- The restarts taken are within the budget (spec/41_sequencer.md R219). -/
def nackCoherent (s : State) : Bool := !running s || decide (s.nackcnt.toNat ≤ s.nackRetries.toNat)

/-- While a primitive is in flight the timeout counter is within what it was loaded with, and 0 exactly when the
timeout is disabled; only then can the core stall (spec/40_i2c_master.md R170, R171). -/
def timerCoherent (s : State) : Bool :=
  match s.opState with
  | .inFlight _ _ => decide ((s.tocnt = 0#32 ↔ s.timeoutMs = 0#8)
      ∧ s.tocnt.toNat ≤ s.timeoutMs.toNat * Config.cyclesPerMs)
  | .stalled => decide (s.timeoutMs = 0#8)
  | .idle => true

/-- A coherent state: all of the relations above. -/
def State.inv (s : State) : Bool :=
  busyCoherent s && doneCoherent s && idleCoherent s && rowCoherent s && flightCoherent s && waitCoherent s
    && errCoherent s && attemptsCoherent s && nackCoherent s && timerCoherent s

/-- `n` core clock cycles, with the bus's answer of each. -/
def runCycles : List (Option BusOutcome) → State → State
  | [], s => s
  | a :: as, s => runCycles as (clockCycle a s)

/-- What the bus sees in those cycles: the action of each primitive, at the cycle in which the bus answers it
(spec/95_test_vectors.md, notation of the bus traces). -/
def busSeen : List (Option BusOutcome) → State → List BusAction
  | [], _ => []
  | a :: as, s => (if a.isSome then (onBus s).toList else []) ++ busSeen as (clockCycle a s)

/-- The answers, a cycle each, with which one micro-op is issued and its primitive answered at once. -/
def answered (os : List BusOutcome) : List (Option BusOutcome) := os.flatMap fun o => [none, some o]

/-- The timeout counter once a primitive has been issued and has been answered in the next cycle. -/
def tocntOnceCounted (s : State) : BitVec 32 := (countTimeout { s with tocnt := timeoutLoad s }).tocnt

/-- What every settled turn changes beside its own effect: the turn is taken from the list and counted. -/
def afterTurn (ts : List Turn) (s : State) : State := { s with turns := ts, taken := s.taken + 1 }

/-- What every clock turn changes beside the core's step: `afterTurn`, and the host's DELAY counts down. -/
def afterClock (ts : List Turn) (s : State) : State :=
  { s with turns := ts, taken := s.taken + 1, hostDelay := s.hostDelay - 1 }

/-- The next step is a host write of `v` at `off`. -/
def hostWrites (s : State) (off : Offset) (v : Word) : Prop :=
  (takeTurn s).1 = .host ∧ s.hostDelay = 0 ∧ ∃ rest, s.host = .wr off v :: rest

/-- The next step is a clock cycle in which the sequencer's step is enabled (spec/41_sequencer.md R202). -/
def sequencerMoves (s : State) : Prop :=
  (∃ a, (takeTurn s).1 = .clock a) ∧ s.opState = .idle ∧ s.waiting = false

/-- The primitive of a primitive command (spec/30_encoding.md R112). -/
def primitiveOf (i : Instr) : Option Prim :=
  match i with
  | .start => some .start
  | .addr => some .addr
  | .write => some .write
  | .read ack => some (.read ack)
  | .stop => some .stop
  | .nop | .reserved6 | .reserved7 | .seqStatus | .seqInit | .seqMeasure | .reservedB | .reservedC | .reservedD
  | .reservedE | .reservedF => none

/-- The sequence of a sequence command (spec/30_encoding.md R112). -/
def sequenceOf (i : Instr) : Option SeqKind :=
  match i with
  | .seqStatus => some .status
  | .seqInit => some .init
  | .seqMeasure => some .measure
  | .nop | .start | .addr | .write | .read _ | .stop | .reserved6 | .reserved7 | .reservedB | .reservedC | .reservedD
  | .reservedE | .reservedF => none

/-- The reserved commands (spec/30_encoding.md R114). -/
def isReserved (i : Instr) : Bool :=
  match i with
  | .reserved6 | .reserved7 | .reservedB | .reservedC | .reservedD | .reservedE | .reservedF => true
  | .nop | .start | .addr | .write | .read _ | .stop | .seqStatus | .seqInit | .seqMeasure => false

/-- The registers whose writes BUSY = 1 drops, CMD apart (spec/20_memory.md R89). -/
def guardedReg (r : Reg) : Bool :=
  match r with
  | .data | .div | .cfg | .raw0 | .raw1 | .raw2 | .raw3 | .raw4 | .raw5 => true
  | .cmd | .csr | .stat | .result | .sstat | .hum20 | .temp20 | .humPct | .tempC => false

/-- Which of RAW0..RAW5 a register is (spec/10_state.md R48). -/
def rawIndex (r : Reg) : Option (Fin 6) :=
  match r with
  | .raw0 => some 0
  | .raw1 => some 1
  | .raw2 => some 2
  | .raw3 => some 3
  | .raw4 => some 4
  | .raw5 => some 5
  | .cmd | .csr | .stat | .data | .div | .cfg | .result | .sstat | .hum20 | .temp20 | .humPct | .tempC => none

end Sys2Proof.Machine
end

