-- ==== Sys2Proof/WellFormed.lean ====
section
/-! DEFINITION. Which terms of the syntax the spec gives a meaning. -/

namespace Sys2Proof

/-- Every command is well-formed: the one operand, ACK, is a bit, and the reserved OP values have the effect R114
gives them (spec/30_encoding.md R113, R116). -/
def Instr.wellFormed (i : Instr) : Bool :=
  match i with
  | .nop | .start | .addr | .write | .read _ | .stop | .reserved6 | .reserved7 | .seqStatus | .seqInit | .seqMeasure
  | .reservedB | .reservedC | .reservedD | .reservedE | .reservedF => true

/-- The range of the address argument of the host's pseudo-instructions: 0 ≤ a ≤ 127 (spec/30_encoding.md R123). -/
def HostCall.addressInRange (c : HostCall) : Bool :=
  match c with
  | .i2cAddrW a | .i2cAddrR a => decide (a ≤ 127)
  | .i2cWait | .i2cInit _ | .i2cStart | .i2cWrite _ | .i2cRead _ | .i2cStop | .sensorReadStatus | .sensorInit
  | .sensorMeasure => true

/-- The range of the divisor that `i2c.init` computes from a core clock of `hz` (spec/30_encoding.md R121): a host
must not issue it when F_CORE_HZ / f < 16, or when the divisor exceeds 255. -/
def HostCall.divisorInRange (hz : Nat) (c : HostCall) : Bool :=
  match c with
  | .i2cInit f => decide (16 ≤ hz / f ∧ (hz / f - 16) / 2 ≤ 255)
  | .i2cWait | .i2cStart | .i2cAddrW _ | .i2cAddrR _ | .i2cWrite _ | .i2cRead _ | .i2cStop | .sensorReadStatus
  | .sensorInit | .sensorMeasure => true

end Sys2Proof
end

