-- ==== Sys2Proof/Certificates/Slice0/Obligations.lean ====
section
/-! DEFINITION. The statements for the provers. Each docstring names the rules of spec/ it formalises. -/

open Sys2Proof Sys2Proof.Machine

/-! ## Encoding -/

/-- Encoding and decoding agree (R110, R112, R118): every well-formed command's word decodes to it, and every word
equals the encoding of what it decodes to in the bits its decoding reads. -/
def Obligations.DecodeAndEncodeAgree : Prop :=
  (∀ i : Instr, i.wellFormed = true → decode (encode i) = i) ∧
  (∀ w : Word, encode (decode w) = w &&& usedBits (decode w))

/-- Exactly one row of the opcode table matches a word (R112, R116): the masked word is the match value of one row
only, and the command it decodes to has that row's OP. -/
def Obligations.EveryWordMatchesExactlyOneRow : Prop :=
  ∀ w : Word, ∃ n : Nat, n < 16 ∧ opcodeOf (decode w) = BitVec.ofNat 4 n ∧
    ∀ m : Nat, m < 16 → (w &&& 0x0000000F#32 = BitVec.ofNat 32 m ↔ m = n)

/-- The command words of R118 decode to the commands they stand for, and the reserved OP values of R112 to theirs. -/
def Obligations.SpecWordsDecode : Prop :=
  decode 0x00#32 = .nop ∧ decode 0x01#32 = .start ∧ decode 0x02#32 = .addr ∧ decode 0x03#32 = .write ∧
  decode 0x04#32 = .read false ∧ decode 0x14#32 = .read true ∧ decode 0x05#32 = .stop ∧
  decode 0x08#32 = .seqStatus ∧ decode 0x09#32 = .seqInit ∧ decode 0x0A#32 = .seqMeasure ∧
  decode 0x06#32 = .reserved6 ∧ decode 0x07#32 = .reserved7 ∧ decode 0x0B#32 = .reservedB ∧
  decode 0x0C#32 = .reservedC ∧ decode 0x0D#32 = .reservedD ∧ decode 0x0E#32 = .reservedE ∧
  decode 0x0F#32 = .reservedF ∧ decode 0xFFFFFFE1#32 = .start ∧ decode 0x19#32 = .seqInit

/-! ## Commands -/

/-- R115, its pseudocode over the raw bits of the word written to CMD, with R151's legality written out. -/
def Obligations.CommandDispatchTakesFirstCase : Prop :=
  ∀ (s : State) (w : Word) (op : Nat) (ack : Bool), op = (w.extractLsb' 0 4).toNat → ack = w.getLsbD 4 →
    memWrite 0x00#8 w s =
      if op = 0x0 then .next s
      else if s.busy = true then .next { s with ovr := true }
      else if op = 0x6 ∨ op = 0x7 ∨ 0xB ≤ op
          ∨ (op = 0x1 ∧ ¬ (s.phase = .idle ∨ s.phase = .tx ∨ s.phase = .rxend))
          ∨ (op = 0x2 ∧ s.phase ≠ .started) ∨ (op = 0x3 ∧ s.phase ≠ .tx) ∨ (op = 0x4 ∧ s.phase ≠ .rx) then
        .next { s with status := .illegal, done := true }
      else if op = 0x5 ∧ s.phase = .idle then .next { s with status := .idle, done := true }
      else if op ≤ 0x5 then
        .next { s with
          done := false
          busy := true
          opState := .inFlight
            (if op = 0x1 then .start else if op = 0x2 then .addr else if op = 0x3 then .write
             else if op = 0x4 then .read ack else .stop) .host
          tocnt := BitVec.ofNat 32 (s.timeoutMs.toNat * Config.cyclesPerMs) }
      else if s.phase ≠ .idle then .next { s with status := .illegal, err := .rejected, done := true }
      else
        .next { s with
          done := false
          busy := true
          err := .ok
          nackcnt := 0#4
          seqkind := if op = 0x8 then .status else if op = 0x9 then .init else .measure
          attempts := if op = 0xA then 0#9 else s.attempts
          valid := if op = 0xA then false else s.valid
          upc := if op = 0x8 then 0#6 else if op = 0x9 then 9#6 else 27#6 }

/-- A step runs the decoded command: when the host's next line writes a word at an offset that reaches CMD and the
turn is the host's, the step is exec of the command the word decodes to, with the turn and the line taken. The second
clause says it of the words that withFetchWord places. The turn that stands for the host's access is the model's (log
entry 1). -/
def Obligations.StepRunsTheDecodedCommand : Prop :=
  (∀ (s : State) (off : Offset) (v : Word) (rest : List HostLine) (ts : List Turn),
    s.turns = .host :: ts → s.hostDelay = 0 → s.host = .wr off v :: rest → regAt off = some .cmd →
    (decode v).wellFormed = true → step s = exec (decode v) { afterTurn ts s with host := rest }) ∧
  (∀ (s : State) (nbits w : Nat),
    step (s.withFetchWord nbits w)
      = exec (decode (BitVec.ofNat 32 (w % 2 ^ nbits))) { s with hostDelay := 0, taken := s.taken + 1 })

/-- R160: NOP, whatever its ACK and ignored bits, has no effect at all, even while BUSY = 1. -/
def Obligations.NopHasNoEffect : Prop :=
  ∀ (s : State), exec .nop s = .next s ∧
    ∀ (w : Word), w.extractLsb' 0 4 = 0x0#4 → decode w = .nop ∧ memWrite 0x00#8 w s = .next s

/-- R152: host acceptance of a legal primitive, for START, ADDR, WRITE, READ with either ACK, and STOP. Nothing else
changes. -/
def Obligations.LegalPrimitiveIsAccepted : Prop :=
  ∀ (s : State) (i : Instr) (p : Prim), primitiveOf i = some p → s.busy = false → legal p s.phase = true →
    ¬ (p = .stop ∧ s.phase = .idle) →
    exec i s = .next { s with
      done := false
      busy := true
      opState := .inFlight p .host
      tocnt := BitVec.ofNat 32 (s.timeoutMs.toNat * Config.cyclesPerMs) }

/-- R153: a primitive in a phase that R151 does not allow, or a reserved OP value, written while BUSY = 0, is not
performed: STATUS and DONE are written and nothing else, and the bus sees no more than before. -/
def Obligations.IllegalPrimitiveIsReported : Prop :=
  ∀ (s : State) (i : Instr), s.busy = false →
    ((∃ p, primitiveOf i = some p ∧ legal p s.phase = false) ∨ isReserved i = true) →
    exec i s = .next { s with status := .illegal, done := true } ∧
    onBus { s with status := .illegal, done := true } = onBus s

/-- R151: the legality table. -/
def Obligations.LegalityTable : Prop :=
  (∀ ph, legal .start ph = true ↔ ph = .idle ∨ ph = .tx ∨ ph = .rxend) ∧
  (∀ ph, legal .addr ph = true ↔ ph = .started) ∧
  (∀ ph, legal .write ph = true ↔ ph = .tx) ∧
  (∀ ph ack, legal (.read ack) ph = true ↔ ph = .rx) ∧
  (∀ ph, legal .stop ph = true)

/-- R114: the reserved OP values 0x6, 0x7 and 0xB to 0xF decode to commands that report ILLEGAL when BUSY = 0 and are
dropped with OVR when BUSY = 1; bits [31:5] of a word are ignored. -/
def Obligations.ReservedCommandsReportIllegal : Prop :=
  (∀ (s : State) (i : Instr), isReserved i = true →
    (s.busy = false → exec i s = .next { s with status := .illegal, done := true }) ∧
    (s.busy = true → exec i s = .next { s with ovr := true })) ∧
  (∀ (w : Word), isReserved (decode w) = true ↔
    (w.extractLsb' 0 4).toNat = 0x6 ∨ (w.extractLsb' 0 4).toNat = 0x7 ∨ 0xB ≤ (w.extractLsb' 0 4).toNat) ∧
  (∀ (w w' : Word), w.extractLsb' 0 5 = w'.extractLsb' 0 5 → decode w = decode w')

/-- R201: a sequence command written with BUSY = 0 is rejected while a transaction is open, and accepted otherwise,
for SEQ_STATUS, SEQ_INIT and SEQ_MEASURE. Nothing else changes. -/
def Obligations.SequenceCommandIsAcceptedOrRejected : Prop :=
  ∀ (s : State) (i : Instr) (k : SeqKind), sequenceOf i = some k → s.busy = false →
    (s.phase ≠ .idle → exec i s = .next { s with status := .illegal, err := .rejected, done := true }) ∧
    (s.phase = .idle → exec i s = .next { s with
      done := false
      busy := true
      err := .ok
      nackcnt := 0#4
      seqkind := k
      attempts := if i = .seqMeasure then 0#9 else s.attempts
      valid := if i = .seqMeasure then false else s.valid
      upc := if i = .seqStatus then 0#6 else if i = .seqInit then 9#6 else 27#6 })

/-! ## Registers -/

/-- R89: when BUSY = 1, a write to CMD with OP ≠ NOP, or to DATA, DIV, CFG or RAW0..RAW5, sets OVR and changes nothing
else. -/
def Obligations.WritesWhileBusyAreDropped : Prop :=
  ∀ (s : State) (off : Offset) (v : Word) (r : Reg), s.busy = true → regAt off = some r →
    (r = .cmd ∧ v.extractLsb' 0 4 ≠ 0x0#4) ∨ guardedReg r = true →
    memWrite off v s = .next { s with ovr := true }

/-- R86, R92: an unmapped offset reads 0 and ignores writes; a write to a read-only register is ignored; a write to
CSR reaches OVR alone, which it clears if bit 2 is 1 (R35, R39). All whatever BUSY is. -/
def Obligations.ReadOnlyAndUnmappedWritesAreIgnored : Prop :=
  (∀ (s : State) (off : Offset) (v : Word), 0x48 ≤ off.toNat → memRead s off = 0#32 ∧ memWrite off v s = .next s) ∧
  (∀ (s : State) (off : Offset) (v : Word) (r : Reg), regAt off = some r →
    (r = .stat ∨ r = .result ∨ r = .sstat ∨ r = .hum20 ∨ r = .temp20 ∨ r = .humPct ∨ r = .tempC →
      memWrite off v s = .next s) ∧
    (r = .csr → memWrite off v s = .next { s with ovr := if v.getLsbD 2 then false else s.ovr }))

/-- R41, R42, R43, R48, R91: what a write stores when BUSY = 0. -/
def Obligations.WritesStoreTheirFields : Prop :=
  ∀ (s : State) (off : Offset) (v : Word), s.busy = false →
    (regAt off = some .data → memWrite off v s = .next { s with data := v.setWidth 8 }) ∧
    (regAt off = some .div → memWrite off v s = .next { s with div := v.setWidth 8 }) ∧
    (regAt off = some .cfg → memWrite off v s = .next { s with
      busyRetries := v.setWidth 8, nackRetries := (v >>> 8).setWidth 4, timeoutMs := (v >>> 16).setWidth 8 }) ∧
    (∀ (r : Reg) (k : Fin 6), regAt off = some r → rawIndex r = some k →
      memWrite off v s = .next { s with raw := s.raw.set k (v.setWidth 8), valid := false })

/-- R84, R90: a host read returns the register's value and changes no state of the core. The turn that stands for the
host's access is the model's (log entry 1). -/
def Obligations.HostReadHasNoSideEffect : Prop :=
  ∀ (s : State) (off : Offset) (rest : List HostLine) (ts : List Turn),
    s.turns = .host :: ts → s.hostDelay = 0 → s.host = .rd off :: rest →
    step s = .next { afterTurn ts s with host := rest, rdata := memRead s off }

/-- R31 to R48, R84, R280: what each register but STAT and the decoded ones reads as in every state: CMD 0; CSR its
flags, PHASE by its number, UPC, and 0 in its reserved bits; DATA, DIV, SSTAT and RAW0 to RAW5 their byte; CFG its three
fields; RESULT the error kind by its number, and ATTEMPTS. -/
def Obligations.RegistersReadTheirFields : Prop :=
  ∀ (s : State),
    memRead s 0x00#8 = 0#32 ∧
    ((memRead s 0x04#8).getLsbD 0 = s.busy ∧ (memRead s 0x04#8).getLsbD 1 = s.done ∧
      (memRead s 0x04#8).getLsbD 2 = s.ovr ∧ (memRead s 0x04#8).getLsbD 3 = s.valid ∧
      (s.phase = .idle → (memRead s 0x04#8).extractLsb' 4 3 = 0#3) ∧
      (s.phase = .started → (memRead s 0x04#8).extractLsb' 4 3 = 1#3) ∧
      (s.phase = .tx → (memRead s 0x04#8).extractLsb' 4 3 = 2#3) ∧
      (s.phase = .rx → (memRead s 0x04#8).extractLsb' 4 3 = 3#3) ∧
      (s.phase = .rxend → (memRead s 0x04#8).extractLsb' 4 3 = 4#3) ∧
      (memRead s 0x04#8).extractLsb' 8 6 = s.upc ∧ (memRead s 0x04#8).getLsbD 7 = false ∧
      ∀ n, 14 ≤ n → (memRead s 0x04#8).getLsbD n = false) ∧
    memRead s 0x0C#8 = s.data.setWidth 32 ∧
    memRead s 0x10#8 = s.div.setWidth 32 ∧
    ((memRead s 0x14#8).extractLsb' 0 8 = s.busyRetries ∧ (memRead s 0x14#8).extractLsb' 8 4 = s.nackRetries ∧
      (memRead s 0x14#8).extractLsb' 12 4 = 0#4 ∧ (memRead s 0x14#8).extractLsb' 16 8 = s.timeoutMs ∧
      (memRead s 0x14#8).extractLsb' 24 8 = 0#8) ∧
    ((s.err = .ok → (memRead s 0x18#8).extractLsb' 0 4 = 0#4) ∧
      (s.err = .addrNack → (memRead s 0x18#8).extractLsb' 0 4 = 1#4) ∧
      (s.err = .arbLost → (memRead s 0x18#8).extractLsb' 0 4 = 2#4) ∧
      (s.err = .busTimeout → (memRead s 0x18#8).extractLsb' 0 4 = 3#4) ∧
      (s.err = .busyTimeout → (memRead s 0x18#8).extractLsb' 0 4 = 4#4) ∧
      (s.err = .dataNack → (memRead s 0x18#8).extractLsb' 0 4 = 5#4) ∧
      (s.err = .rejected → (memRead s 0x18#8).extractLsb' 0 4 = 6#4) ∧
      (memRead s 0x18#8).extractLsb' 4 4 = 0#4 ∧ (memRead s 0x18#8).extractLsb' 8 9 = s.attempts ∧
      (memRead s 0x18#8).extractLsb' 17 15 = 0#15) ∧
    memRead s 0x1C#8 = s.sstat.setWidth 32 ∧
    (memRead s 0x20#8 = s.raw.b0.setWidth 32 ∧ memRead s 0x24#8 = s.raw.b1.setWidth 32 ∧
      memRead s 0x28#8 = s.raw.b2.setWidth 32 ∧ memRead s 0x2C#8 = s.raw.b3.setWidth 32 ∧
      memRead s 0x30#8 = s.raw.b4.setWidth 32 ∧ memRead s 0x34#8 = s.raw.b5.setWidth 32)

/-- R35: OVR is sticky. It is set only by a dropped write and cleared only by a write of bit 2 = 1 to CSR, or by
reset. The turn that stands for the host's access is the model's (log entry 1). -/
def Obligations.OvrChangesOnlyAsStated : Prop :=
  ∀ (s t : State), step s = .next t → t.ovr ≠ s.ovr →
    (takeTurn s).1 = .rst ∨
    (t.ovr = false ∧ ∃ off v, hostWrites s off v ∧ regAt off = some .csr ∧ v.getLsbD 2 = true) ∨
    (t.ovr = true ∧ s.busy = true ∧ ∃ off v r, hostWrites s off v ∧ regAt off = some r ∧
      ((r = .cmd ∧ v.extractLsb' 0 4 ≠ 0x0#4) ∨ guardedReg r = true))

/-- R42, R43: DIV and CFG change only by a host write to them that is not dropped, or by reset. The turn that stands
for the host's access is the model's (log entry 1). -/
def Obligations.ConfigurationChangesOnlyByHostWrites : Prop :=
  ∀ (s t : State), step s = .next t →
    (t.div ≠ s.div → (takeTurn s).1 = .rst ∨
      (s.busy = false ∧ ∃ off v, hostWrites s off v ∧ regAt off = some .div)) ∧
    (¬ (t.busyRetries = s.busyRetries ∧ t.nackRetries = s.nackRetries ∧ t.timeoutMs = s.timeoutMs) →
      (takeTurn s).1 = .rst ∨ (s.busy = false ∧ ∃ off v, hostWrites s off v ∧ regAt off = some .cfg))

/-! ## Reset -/

/-- R31's reset column, R321: what every register reads as right after reset. -/
def Obligations.RegistersReadTheirResetValues : Prop :=
  memRead State.reset 0x00#8 = 0x00000000#32 ∧ memRead State.reset 0x04#8 = 0x00003F00#32 ∧
  memRead State.reset 0x08#8 = 0x000000F8#32 ∧ memRead State.reset 0x0C#8 = 0x00000000#32 ∧
  memRead State.reset 0x10#8 = 0x00000000#32 ∧ memRead State.reset 0x14#8 = 0x000A0309#32 ∧
  memRead State.reset 0x18#8 = 0x00000000#32 ∧ memRead State.reset 0x1C#8 = 0x00000000#32 ∧
  memRead State.reset 0x20#8 = 0x00000000#32 ∧ memRead State.reset 0x24#8 = 0x00000000#32 ∧
  memRead State.reset 0x28#8 = 0x00000000#32 ∧ memRead State.reset 0x2C#8 = 0x00000000#32 ∧
  memRead State.reset 0x30#8 = 0x00000000#32 ∧ memRead State.reset 0x34#8 = 0x00000000#32 ∧
  memRead State.reset 0x38#8 = 0x00000000#32 ∧ memRead State.reset 0x3C#8 = 0x00000000#32 ∧
  memRead State.reset 0x40#8 = 0x00000000#32 ∧ memRead State.reset 0x44#8 = 0xFFFFFFCE#32

/-- R320: a clock edge with `rst` = 1 gives every register and every piece of hidden state its reset value, from any
state, Stalled among them, puts no stop condition on the bus, and leaves both lines released. -/
def Obligations.ResetGivesEveryFieldItsResetValue : Prop :=
  ∀ (s : State) (ts : List Turn), s.turns = .rst :: ts → ∃ t, step s = .next t ∧
    t.busy = false ∧ t.done = false ∧ t.ovr = false ∧ t.valid = false ∧ t.phase = .idle ∧ t.upc = 63#6 ∧
    t.status.code = 0xF8#8 ∧ t.data = 0x00#8 ∧ t.div = 0x00#8 ∧ t.busyRetries = 9#8 ∧ t.nackRetries = 3#4 ∧
    t.timeoutMs = 10#8 ∧ t.err.code = 0#4 ∧ t.attempts = 0#9 ∧ t.sstat = 0x00#8 ∧ t.raw = Reading.zero ∧
    t.opState = .idle ∧ t.tocnt = 0#32 ∧ t.waitcnt = 0#32 ∧ t.nackcnt = 0#4 ∧ t.txhead = 0#6 ∧
    t.buf = Reading.zero ∧ t.seqkind = .none ∧ t.waiting = false ∧
    onBus t = none ∧ sclOe t = false ∧ sdaOe t = false ∧ (∀ off, memRead t off = memRead State.reset off)

/-! ## Completion of a primitive -/

/-- R157: the outcomes the bus oracle may return, TIMEOUT and STALL among them as the loaded counter says. -/
def Obligations.BusOutcomesAreTheAdmittedSet : Prop :=
  ∀ (single armed : Bool) (p : Prim) (ph : Phase) (o : BusOutcome), admits single p ph armed o = true ↔
    (o = .timeout ∧ armed = true) ∨ (o = .stall ∧ armed = false) ∨
    (p = .start ∧ ph = .idle ∧ o = .ok) ∨
    (p = .start ∧ (ph = .tx ∨ ph = .rxend) ∧ (o = .ok ∨ (o = .arb ∧ single = false))) ∨
    (p = .addr ∧ ph = .started ∧ (o = .ack ∨ o = .nack ∨ (o = .arb ∧ single = false))) ∨
    (p = .write ∧ ph = .tx ∧ (o = .ack ∨ o = .nack ∨ (o = .arb ∧ single = false))) ∨
    ((∃ ack, p = .read ack) ∧ ph = .rx ∧ ((∃ b, o = .byte b) ∨ (o = .arb ∧ single = false))) ∨
    (p = .stop ∧ ph ≠ .idle ∧ o = .ok)

/-- R158: the completion table, row by row, STATUS by its code. -/
def Obligations.CompletionTable : Prop :=
  ∀ (s : State) (p : Prim) (o : BusOutcome) (t : State), t = complete p o s →
    (p = .start → s.phase = .idle → o = .ok →
      t = { s with status := .startSent, phase := .started } ∧ t.status.code = 0x08#8) ∧
    (p = .start → s.phase = .tx ∨ s.phase = .rxend → o = .ok →
      t = { s with status := .restartSent, phase := .started } ∧ t.status.code = 0x10#8) ∧
    (p = .start → s.phase = .tx ∨ s.phase = .rxend → o = .arb →
      t = { s with status := .arbLost, phase := .idle } ∧ t.status.code = 0x38#8) ∧
    (p = .addr → s.phase = .started → o = .ack → s.data.getLsbD 0 = false →
      t = { s with status := .slawAck, phase := .tx } ∧ t.status.code = 0x18#8) ∧
    (p = .addr → s.phase = .started → o = .nack → s.data.getLsbD 0 = false →
      t = { s with status := .slawNack, phase := .tx } ∧ t.status.code = 0x20#8) ∧
    (p = .addr → s.phase = .started → o = .ack → s.data.getLsbD 0 = true →
      t = { s with status := .slarAck, phase := .rx } ∧ t.status.code = 0x40#8) ∧
    (p = .addr → s.phase = .started → o = .nack → s.data.getLsbD 0 = true →
      t = { s with status := .slarNack, phase := .rxend } ∧ t.status.code = 0x48#8) ∧
    (p = .addr → s.phase = .started → o = .arb →
      t = { s with status := .arbLost, phase := .idle } ∧ t.status.code = 0x38#8) ∧
    (p = .write → s.phase = .tx → o = .ack →
      t = { s with status := .dataTxAck, phase := .tx } ∧ t.status.code = 0x28#8) ∧
    (p = .write → s.phase = .tx → o = .nack →
      t = { s with status := .dataTxNack, phase := .tx } ∧ t.status.code = 0x30#8) ∧
    (p = .write → s.phase = .tx → o = .arb →
      t = { s with status := .arbLost, phase := .idle } ∧ t.status.code = 0x38#8) ∧
    (∀ b, p = .read true → s.phase = .rx → o = .byte b →
      t = { s with status := .dataRxAck, phase := .rx, data := b } ∧ t.status.code = 0x50#8) ∧
    (∀ b, p = .read false → s.phase = .rx → o = .byte b →
      t = { s with status := .dataRxNack, phase := .rxend, data := b } ∧ t.status.code = 0x58#8) ∧
    (∀ ack, p = .read ack → s.phase = .rx → o = .arb →
      t = { s with status := .arbLost, phase := .idle } ∧ t.status.code = 0x38#8) ∧
    (p = .stop → s.phase ≠ .idle → o = .ok →
      t = { s with status := .idle, phase := .idle } ∧ t.status.code = 0xF8#8) ∧
    (o = .timeout → t = { s with status := .busTimeout, phase := .idle } ∧ t.status.code = 0xE0#8)

/-- R154, R155, R204: completion of a primitive by an outcome that R157 admits: that outcome has a row of the table of
R158, and in one step that row is applied and op_state becomes Idle; for the host BUSY falls and DONE rises, for a
sequence the new STATUS passes to the status check, with BUSY and DONE as they were unless the row is ABORT (R220).
The timeout counter counts the cycle too (log entry 5). The turn that stands for the core's step is the model's (log
entries 1, 2 and 13). -/
def Obligations.PrimitivesCompleteInOneStep : Prop :=
  ∀ (s : State) (ts : List Turn) (p : Prim) (origin : Origin) (o : BusOutcome),
    s.turns = .clock (some o) :: ts → s.opState = .inFlight p origin → o ≠ .timeout → o ≠ .stall →
    admits Config.singleMaster p s.phase (decide (s.tocnt ≠ 0#32)) o = true →
    ∃ c, completionRow p s.phase (s.data.getLsbD 0) o = some c ∧
      (origin = .host → step s = .next { afterClock ts s with
        status := c.status
        phase := c.phase
        data := c.received.getD s.data
        opState := .idle
        busy := false
        done := true
        tocnt := if s.tocnt = 0#32 then 0#32 else s.tocnt - 1#32 }) ∧
      (origin = .seq → ∃ t, step s = .next t ∧
        t = countDelay (checkStatus { afterTurn ts s with
          status := c.status
          phase := c.phase
          data := c.received.getD s.data
          opState := .idle
          tocnt := if s.tocnt = 0#32 then 0#32 else s.tocnt - 1#32 }) ∧
        (s.upc ≠ 62#6 → t.busy = s.busy ∧ t.done = s.done))

/-- R170: a primitive issued with a non-zero counter, by the host or by a sequence, which the bus does not answer, is in
flight for exactly tocnt cycles and is then completed by the core with BUS_TIMEOUT, PHASE IDLE and DATA unchanged; for
the host BUSY falls and DONE rises (R154), for a sequence the status check follows in the same step (R155). That one
clock cycle is one core step, that the counter counts in the completing cycle too, and the host's DELAY, are the model's
(log entries 1, 2, 5 and 13). -/
def Obligations.TimeoutComesAfterExactlyTocntCycles : Prop :=
  ∀ (s : State) (p : Prim) (origin : Origin) (n : Nat), s.opState = .inFlight p origin → s.tocnt.toNat = n → 0 < n →
    (∀ m, m < n → runCycles (List.replicate m none) s
      = { s with tocnt := s.tocnt - BitVec.ofNat 32 m, hostDelay := s.hostDelay - m }) ∧
    ((runCycles (List.replicate n none) s).status.code = 0xE0#8 ∧
      (runCycles (List.replicate n none) s).phase = .idle ∧ (runCycles (List.replicate n none) s).data = s.data ∧
      (runCycles (List.replicate n none) s).opState = .idle ∧ (runCycles (List.replicate n none) s).tocnt = 0#32) ∧
    (origin = .host → runCycles (List.replicate n none) s
      = { s with status := .busTimeout, phase := .idle, opState := .idle, busy := false, done := true,
                 tocnt := 0#32, hostDelay := s.hostDelay - n }) ∧
    (origin = .seq → runCycles (List.replicate n none) s
      = { checkStatus { s with status := .busTimeout, phase := .idle, opState := .idle, tocnt := 0#32 } with
            hostDelay := s.hostDelay - n })

/-- R120, R170: with the timeout enabled no primitive outlives its counter, whatever the bus does, and it does not
stall. That one clock cycle is one core step, and the order of the answers given, are the model's (log entries 1 and
2). -/
def Obligations.NoPrimitiveOutlivesItsTimeout : Prop :=
  ∀ (s : State) (p : Prim) (origin : Origin) (answers : List (Option BusOutcome)),
    s.opState = .inFlight p origin → s.tocnt ≠ 0#32 → answers.length = s.tocnt.toNat →
    ∃ k, 1 ≤ k ∧ k ≤ s.tocnt.toNat ∧ (runCycles (answers.take k) s).opState = .idle ∧
      ∀ j, j < k → (runCycles (answers.take j) s).opState = .inFlight p origin

/-- R172: in the cycle in which tocnt reaches 0 the bus's outcome is applied, and TIMEOUT is not, whoever issued the
primitive; a host primitive ends as R154 says. The turn that stands for the cycle, and that tocnt counts in the
completing cycle too, are the model's (log entries 1, 2 and 5). -/
def Obligations.BusWinsTheTieWithTheTimeout : Prop :=
  ∀ (s : State) (ts : List Turn) (p : Prim) (origin : Origin) (o : BusOutcome) (t : State),
    s.turns = .clock (some o) :: ts → s.opState = .inFlight p origin → s.tocnt = 1#32 → o ≠ .timeout →
    admits Config.singleMaster p s.phase true o = true → step s = .next t →
    t.status = (complete p o s).status ∧ t.phase = (complete p o s).phase ∧ t.data = (complete p o s).data ∧
    t.status ≠ .busTimeout ∧ t.opState = .idle ∧ t.tocnt = 0#32 ∧ (origin = .host → t.busy = false ∧ t.done = true)

/-- R171: with the timeout disabled the outcome STALL sets op_state to Stalled. From then on BUSY stays 1, no step of
the core or the bus is enabled, host commands are dropped with OVR, and only reset leaves the state. That steps go on
in Stalled and move only OVR and the model's own fields, and the turns, are the model's (log entries 1, 2, 13 and 17).
-/
def Obligations.OnlyResetLeavesAStall : Prop :=
  (∀ (s : State) (ts : List Turn) (p : Prim) (origin : Origin), s.turns = .clock (some .stall) :: ts →
    s.opState = .inFlight p origin → s.tocnt = 0#32 →
    step s = .next { afterClock ts s with opState := .stalled }) ∧
  (∀ (s t : State), s.opState = .stalled → s.busy = true → step s = .next t →
    ((takeTurn s).1 ≠ .rst → ∃ o rd ls d ts, t = { s with
      ovr := o, rdata := rd, host := ls, hostDelay := d, turns := ts, taken := s.taken + 1 }) ∧
    ((takeTurn s).1 = .rst → t.opState = .idle ∧ t.busy = false)) ∧
  (∀ (s : State) (i : Instr), s.opState = .stalled → s.busy = true → i ≠ .nop →
    exec i s = .next { s with ovr := true })

/-- R36, R40, R284, R34: what alone changes PHASE, STATUS and DONE. PHASE: the completion of a primitive, and reset.
STATUS: the completion of a primitive, a command that is illegal, rejected or a STOP in IDLE, a STOP row in IDLE, and
reset. DONE: cleared by an acceptance and by reset; set by the completion of a host primitive, the finish of a sequence,
and a command that completes at its acceptance. The turn that stands for the core's step and the host's access is the
model's (log entries 1 and 2). -/
def Obligations.PhaseStatusAndDoneChangeOnlyAsStated : Prop :=
  ∀ (s t : State), step s = .next t →
    (t.phase ≠ s.phase → (takeTurn s).1 = .rst ∨
      ((∃ a, (takeTurn s).1 = .clock a) ∧ (∃ p origin, s.opState = .inFlight p origin) ∧ t.opState = .idle)) ∧
    (t.status ≠ s.status → (takeTurn s).1 = .rst ∨
      ((∃ a, (takeTurn s).1 = .clock a) ∧ (∃ p origin, s.opState = .inFlight p origin) ∧ t.opState = .idle) ∨
      (sequencerMoves s ∧ rom s.upc = some .stop ∧ s.phase = .idle ∧ t.status = .idle) ∨
      (s.busy = false ∧ ∃ off v, hostWrites s off v ∧ regAt off = some .cmd ∧
        ((t.status = .idle ∧ decode v = .stop ∧ s.phase = .idle) ∨
          (t.status = .illegal ∧ (isReserved (decode v) = true ∨
            (∃ p, primitiveOf (decode v) = some p ∧ legal p s.phase = false) ∨
            (∃ k, sequenceOf (decode v) = some k ∧ s.phase ≠ .idle)))))) ∧
    (s.done = true → t.done = false → (takeTurn s).1 = .rst ∨
      (s.busy = false ∧ t.busy = true ∧ ∃ off v, hostWrites s off v ∧ regAt off = some .cmd ∧ decode v ≠ .nop)) ∧
    (s.done = false → t.done = true → t.busy = false ∧
      (((∃ a, (takeTurn s).1 = .clock a) ∧ (∃ p, s.opState = .inFlight p .host) ∧ t.opState = .idle) ∨
        ((∃ a, (takeTurn s).1 = .clock a) ∧ (rom s.upc = some .endSeq ∨ rom s.upc = some .abort) ∧
          t.seqkind = .none ∧ t.upc = 63#6) ∨
        (s.busy = false ∧ ∃ off v, hostWrites s off v ∧ regAt off = some .cmd ∧
          ((t.status = .idle ∧ decode v = .stop ∧ s.phase = .idle) ∨ t.status = .illegal))))

/-- R41: DATA changes only by a host write, by a READ that completes with a received byte, by the byte a micro-op
sends, or at reset. The turn that stands for the core's step is the model's (log entries 1 and 2). -/
def Obligations.DataChangesOnlyAsStated : Prop :=
  ∀ (s t : State), step s = .next t → t.data ≠ s.data →
    (takeTurn s).1 = .rst ∨
    (s.busy = false ∧ ∃ off v, hostWrites s off v ∧ regAt off = some .data ∧ t.data = v.setWidth 8) ∨
    (∃ ack origin b, s.opState = .inFlight (.read ack) origin ∧ (takeTurn s).1 = .clock (some (.byte b)) ∧
      t.data = b) ∨
    (sequencerMoves s ∧ (rom s.upc = some (.addr t.data) ∨ rom s.upc = some (.write t.data)))

/-! ## The sequencer -/

/-- R203: the micro-program, row by row; rows 46 to 60 do not exist and row 63 holds no micro-op. -/
def Obligations.MicroProgramRows : Prop :=
  rom 0#6 = some (.start true) ∧ rom 1#6 = some (.addr 0x70#8) ∧ rom 2#6 = some (.write 0x71#8) ∧
  rom 3#6 = some (.start false) ∧ rom 4#6 = some (.addr 0x71#8) ∧ rom 5#6 = some (.read 0 true) ∧
  rom 6#6 = some .stop ∧ rom 7#6 = some .setstat ∧ rom 8#6 = some .endSeq ∧
  rom 9#6 = some (.wait 40) ∧ rom 10#6 = some (.start true) ∧ rom 11#6 = some (.addr 0x70#8) ∧
  rom 12#6 = some (.write 0x71#8) ∧ rom 13#6 = some (.start false) ∧ rom 14#6 = some (.addr 0x71#8) ∧
  rom 15#6 = some (.read 0 true) ∧ rom 16#6 = some .stop ∧ rom 17#6 = some .setstat ∧
  rom 18#6 = some (.brcal 26#6) ∧ rom 19#6 = some (.start true) ∧ rom 20#6 = some (.addr 0x70#8) ∧
  rom 21#6 = some (.write 0xBE#8) ∧ rom 22#6 = some (.write 0x08#8) ∧ rom 23#6 = some (.write 0x00#8) ∧
  rom 24#6 = some .stop ∧ rom 25#6 = some (.wait 10) ∧ rom 26#6 = some .endSeq ∧
  rom 27#6 = some (.start true) ∧ rom 28#6 = some (.addr 0x70#8) ∧ rom 29#6 = some (.write 0xAC#8) ∧
  rom 30#6 = some (.write 0x33#8) ∧ rom 31#6 = some (.write 0x00#8) ∧ rom 32#6 = some .stop ∧
  rom 33#6 = some (.wait 80) ∧ rom 34#6 = some (.start true) ∧ rom 35#6 = some (.addr 0x71#8) ∧
  rom 36#6 = some (.read 0 true) ∧ rom 37#6 = some (.read 1 true) ∧ rom 38#6 = some (.read 2 true) ∧
  rom 39#6 = some (.read 3 true) ∧ rom 40#6 = some (.read 4 true) ∧ rom 41#6 = some (.read 5 false) ∧
  rom 42#6 = some .stop ∧ rom 43#6 = some .commit ∧ rom 44#6 = some (.brbusy 33#6) ∧ rom 45#6 = some .endSeq ∧
  rom 61#6 = some .retry ∧ rom 62#6 = some .abort ∧ rom 63#6 = none ∧
  ∀ r : Row, 46 ≤ r.toNat → r.toNat ≤ 60 → rom r = none

/-- R155, R205 to R209: what a micro-op that issues a primitive does in its step, and the STOP row in phase IDLE. The
turn that stands for the core's step is the model's (log entries 1, 2 and 13). -/
def Obligations.MicroOpsIssueTheirPrimitives : Prop :=
  ∀ (s : State) (ts : List Turn) (a : Option BusOutcome) (m : MicroOp), s.turns = .clock a :: ts →
    s.opState = .idle → s.waiting = false → rom s.upc = some m →
    (∀ h, m = .start h → step s = .next { afterClock ts s with
      txhead := if h then s.upc else s.txhead, opState := .inFlight .start .seq
      tocnt := BitVec.ofNat 32 (s.timeoutMs.toNat * Config.cyclesPerMs) }) ∧
    (∀ b, m = .addr b → step s = .next { afterClock ts s with
      data := b, opState := .inFlight .addr .seq
      tocnt := BitVec.ofNat 32 (s.timeoutMs.toNat * Config.cyclesPerMs) }) ∧
    (∀ b, m = .write b → step s = .next { afterClock ts s with
      data := b, opState := .inFlight .write .seq
      tocnt := BitVec.ofNat 32 (s.timeoutMs.toNat * Config.cyclesPerMs) }) ∧
    (∀ k ack, m = .read k ack → step s = .next { afterClock ts s with
      opState := .inFlight (.read ack) .seq
      tocnt := BitVec.ofNat 32 (s.timeoutMs.toNat * Config.cyclesPerMs) }) ∧
    (m = .stop → s.phase ≠ .idle → step s = .next { afterClock ts s with
      opState := .inFlight .stop .seq
      tocnt := BitVec.ofNat 32 (s.timeoutMs.toNat * Config.cyclesPerMs) }) ∧
    (m = .stop → s.phase = .idle → step s = .next { afterClock ts s with status := .idle, upc := s.upc + 1#6 })

/-- R204, R208: the status check of a ROM row that issued a primitive, STATUS by its code. -/
def Obligations.StatusCheckActsInTheFirstCase : Prop :=
  ∀ (s : State) (m : MicroOp) (expected : List Byte), rom s.upc = some m →
    ((∃ h, m = .start h) ∧ expected = [0x08#8, 0x10#8]) ∨
    (∃ a, m = .addr a ∧ expected = (if a.getLsbD 0 then [0x40#8] else [0x18#8])) ∨
    ((∃ b, m = .write b) ∧ expected = [0x28#8]) ∨
    (∃ k ack, m = .read k ack ∧ expected = (if ack then [0x50#8] else [0x58#8])) ∨
    (m = .stop ∧ expected = [0xF8#8]) →
    (s.status.code ∈ expected →
      (∀ k ack, m = .read k ack → checkStatus s = { s with buf := s.buf.set k s.data, upc := s.upc + 1#6 }) ∧
      ((∀ k ack, m ≠ .read k ack) → checkStatus s = { s with upc := s.upc + 1#6 })) ∧
    (s.status.code ∉ expected →
      (s.status.code = 0x20#8 ∨ s.status.code = 0x48#8 → checkStatus s = addressNack s) ∧
      (s.status.code = 0x30#8 →
        checkStatus s = { s with err := if s.err = .ok then .dataNack else s.err, upc := 62#6 }) ∧
      (s.status.code = 0x38#8 →
        checkStatus s = { s with err := if s.err = .ok then .arbLost else s.err, upc := 62#6 }) ∧
      (s.status.code = 0xE0#8 →
        checkStatus s = { s with err := if s.err = .ok then .busTimeout else s.err, upc := 62#6 }))

/-- R204's last paragraph: the check is total. In a coherent state, whatever an admitted outcome of the primitive a
ROM row issued is, its STATUS is the expected one or one of the five that the check names. -/
def Obligations.StatusCheckIsTotal : Prop :=
  ∀ (s : State) (p : Prim) (o : BusOutcome) (m : MicroOp), s.inv = true → s.opState = .inFlight p .seq →
    rom s.upc = some m → m ≠ .retry → m ≠ .abort → o ≠ .stall →
    admits Config.singleMaster p s.phase (decide (s.tocnt ≠ 0#32)) o = true →
    expectedStatus m (complete p o s).status = true ∨
    (complete p o s).status.code ∈ [0x20#8, 0x48#8, 0x30#8, 0x38#8, 0xE0#8]

/-- R219: the address-NACK restart. -/
def Obligations.AddressNackRestartsWithinBudget : Prop :=
  ∀ (s : State), (s.nackcnt.toNat < s.nackRetries.toNat →
      addressNack s = { s with nackcnt := s.nackcnt + 1#4, upc := 61#6 } ∧
      (addressNack s).nackcnt.toNat = s.nackcnt.toNat + 1) ∧
    (¬ s.nackcnt.toNat < s.nackRetries.toNat →
      addressNack s = { s with err := if s.err = .ok then .addrNack else s.err, upc := 62#6 })

/-- R210: a WAIT keeps the sequencer at its row for exactly n × CYCLES_PER_MS cycles after its entry step, whatever
the bus does, and then goes to the next row. That one clock cycle is one core step, and the order of the answers
given, are the model's (log entries 1, 2 and 13). -/
def Obligations.WaitLastsExactly : Prop :=
  ∀ (s : State) (ms : Nat) (answers : List (Option BusOutcome)), s.opState = .idle → s.waiting = false →
    rom s.upc = some (.wait ms) →
    (1 ≤ answers.length → answers.length ≤ ms * Config.cyclesPerMs →
      (runCycles answers s).waiting = true ∧ (runCycles answers s).upc = s.upc ∧
      (runCycles answers s).waitcnt.toNat = ms * Config.cyclesPerMs + 1 - answers.length) ∧
    (answers.length = ms * Config.cyclesPerMs + 1 →
      runCycles answers s = { s with waitcnt := 0#32, upc := s.upc + 1#6, hostDelay := s.hostDelay - answers.length })

/-- R211: SETSTAT, and that SSTAT changes nowhere else but at reset. The turn that stands for the core's step is the
model's (log entries 1, 2 and 13). -/
def Obligations.SstatIsWrittenBySetstatAlone : Prop :=
  (∀ (s : State) (ts : List Turn) (a : Option BusOutcome), s.turns = .clock a :: ts → s.opState = .idle →
    s.waiting = false → rom s.upc = some .setstat →
    step s = .next { afterClock ts s with sstat := s.buf.b0, upc := s.upc + 1#6 }) ∧
  (∀ (s t : State), step s = .next t → t.sstat ≠ s.sstat →
    (takeTurn s).1 = .rst ∨ (sequencerMoves s ∧ rom s.upc = some .setstat ∧ t.sstat = s.buf.b0))

/-- R212: BRCAL tests bit 3 of SSTAT alone. The turn that stands for the core's step is the model's (log entries 1, 2 and
13). -/
def Obligations.BrcalTestsTheCalibratedBit : Prop :=
  ∀ (s : State) (ts : List Turn) (a : Option BusOutcome) (t : Row), s.turns = .clock a :: ts → s.opState = .idle →
    s.waiting = false → rom s.upc = some (.brcal t) →
    step s = .next { afterClock ts s with upc := if s.sstat.getLsbD 3 then t else s.upc + 1#6 }

/-- R213, R46: COMMIT writes the six RAW registers and counts the read in one step, and in a coherent state the count
does not pass 256; nothing but COMMIT, the acceptance of a SEQ_MEASURE, which clears it, and reset changes ATTEMPTS. The
turn that stands for the core's step, and what it does beside it, are the model's (log entries 1, 2 and 13). -/
def Obligations.CommitHandsOverTheReading : Prop :=
  (∀ (s : State) (ts : List Turn) (a : Option BusOutcome), s.turns = .clock a :: ts → s.opState = .idle →
    s.waiting = false → rom s.upc = some .commit →
    step s = .next { afterClock ts s with raw := s.buf, attempts := s.attempts + 1#9, upc := s.upc + 1#6 } ∧
    (s.inv = true → (s.attempts + 1#9).toNat = s.attempts.toNat + 1 ∧ (s.attempts + 1#9).toNat ≤ 256)) ∧
  (∀ (s t : State), step s = .next t → t.attempts ≠ s.attempts →
    (takeTurn s).1 = .rst ∨
    (sequencerMoves s ∧ rom s.upc = some .commit ∧ t.attempts = s.attempts + 1#9) ∨
    (s.busy = false ∧ s.phase = .idle ∧ t.attempts = 0#9 ∧
      ∃ off v, hostWrites s off v ∧ regAt off = some .cmd ∧ decode v = .seqMeasure))

/-- R214: BRBUSY. The turn that stands for the core's step is the model's (log entries 1, 2 and 13). -/
def Obligations.BrbusyRetriesWithinBudget : Prop :=
  ∀ (s : State) (ts : List Turn) (a : Option BusOutcome) (t : Row), s.turns = .clock a :: ts → s.opState = .idle →
    s.waiting = false → rom s.upc = some (.brbusy t) →
    (s.raw.b0.getLsbD 7 = true → s.attempts.toNat ≤ s.busyRetries.toNat →
      step s = .next { afterClock ts s with upc := t }) ∧
    (s.raw.b0.getLsbD 7 = true → ¬ s.attempts.toNat ≤ s.busyRetries.toNat →
      step s = .next { afterClock ts s with err := if s.err = .ok then .busyTimeout else s.err, upc := 62#6 }) ∧
    (s.raw.b0.getLsbD 7 = false → step s = .next { afterClock ts s with upc := s.upc + 1#6 })

/-- R218, R220: the internal rows RETRY and ABORT: STOP an open transaction, else restart at txhead, or finish; and
what follows the STOP's completion. The turn that stands for the core's step is the model's (log entries 1, 2 and 13). -/
def Obligations.RetryAndAbortStopTheTransaction : Prop :=
  (∀ (s : State) (ts : List Turn) (a : Option BusOutcome), s.turns = .clock a :: ts → s.opState = .idle →
    s.waiting = false →
    (s.upc = 61#6 ∨ s.upc = 62#6 → s.phase ≠ .idle → step s = .next { afterClock ts s with
      opState := .inFlight .stop .seq, tocnt := BitVec.ofNat 32 (s.timeoutMs.toNat * Config.cyclesPerMs) }) ∧
    (s.upc = 61#6 → s.phase = .idle → step s = .next { afterClock ts s with upc := s.txhead }) ∧
    (s.upc = 62#6 → s.phase = .idle → step s = .next (finish (afterClock ts s)))) ∧
  (∀ (s : State), (s.upc = 61#6 → s.status.code = 0xF8#8 → checkStatus s = { s with upc := s.txhead }) ∧
    (s.upc = 61#6 → s.status.code = 0xE0#8 →
      checkStatus s = { s with err := if s.err = .ok then .busTimeout else s.err, upc := 62#6 }) ∧
    (s.upc = 62#6 → s.status.code = 0xF8#8 → checkStatus s = finish s) ∧
    (s.upc = 62#6 → s.status.code = 0xE0#8 → s.err ≠ .ok → checkStatus s = finish s))

/-- R216, R221: END runs `Finish()` in its one step. The turn that stands for the core's step is the model's (log
entries 1, 2 and 13). -/
def Obligations.EndFinishesTheSequence : Prop :=
  ∀ (s : State) (ts : List Turn) (a : Option BusOutcome), s.turns = .clock a :: ts → s.opState = .idle →
    s.waiting = false → rom s.upc = some .endSeq →
    step s = .next { afterClock ts s with
      valid := if s.seqkind = .measure ∧ s.err.code = 0#4 then true else s.valid
      seqkind := .none
      upc := 63#6
      busy := false
      done := true }

/-- R37: VALID rises only at the finish of a SEQ_MEASURE with ERR = 0, and falls only at the acceptance of a
SEQ_MEASURE, at a host write to RAWk that is not dropped, or at reset. The turn that stands for the host's access is
the model's (log entry 1). -/
def Obligations.ValidChangesOnlyAsStated : Prop :=
  ∀ (s t : State), step s = .next t →
    (s.valid = false → t.valid = true →
      s.seqkind = .measure ∧ t.seqkind = .none ∧ t.err = .ok ∧ t.busy = false ∧ t.done = true) ∧
    (s.valid = true → t.valid = false → (takeTurn s).1 = .rst ∨
      (s.busy = false ∧ ∃ off v, hostWrites s off v ∧
        ((regAt off = some .cmd ∧ decode v = .seqMeasure ∧ s.phase = .idle) ∨
          ∃ r k, regAt off = some r ∧ rawIndex r = some k)))

/-- R48: RAW0..RAW5 change only by COMMIT, all six together, by a host write to one of them that is not dropped, or at
reset. The turn that stands for the core's step is the model's (log entries 1 and 2). -/
def Obligations.RawChangesOnlyAsStated : Prop :=
  ∀ (s t : State), step s = .next t → t.raw ≠ s.raw →
    (takeTurn s).1 = .rst ∨
    (sequencerMoves s ∧ rom s.upc = some .commit ∧ t.raw = s.buf) ∨
    (s.busy = false ∧ t.valid = false ∧ ∃ off v r k, hostWrites s off v ∧ regAt off = some r ∧
      rawIndex r = some k ∧ t.raw = s.raw.set k (v.setWidth 8))

/-- R45: ERR is written at the acceptance or rejection of a sequence, and otherwise only while it is 0, so that it
keeps the first error; host primitives never write it. The turn that stands for the core's step is the model's (log
entries 1 and 2). -/
def Obligations.ErrKeepsTheFirstError : Prop :=
  ∀ (s t : State), step s = .next t → t.err ≠ s.err →
    (takeTurn s).1 = .rst ∨
    (s.busy = false ∧ (t.err = .ok ∨ t.err = .rejected) ∧
      ∃ off v k, hostWrites s off v ∧ regAt off = some .cmd ∧ sequenceOf (decode v) = some k) ∨
    (s.err = .ok ∧ t.err ≠ .rejected ∧ (∃ a, (takeTurn s).1 = .clock a) ∧
      ∀ p, s.opState ≠ .inFlight p .host)

/-! ## Whole sequences -/

/-- R222, its success path, from any idle state: the state at the end, every field of it, and what the bus sees. That
one clock cycle is one core step, the order of the answers given, the value of tocnt after a completion, and the
host's DELAY, are the model's (log entries 1, 2, 5 and 13). -/
def Obligations.SeqStatusSuccessPath : Prop :=
  ∀ (s : State) (b : Byte), s.busy = false → s.phase = .idle → s.opState = .idle → s.waiting = false →
    ∃ t, exec .seqStatus s = .next t ∧
      runCycles (answered [.ok, .ack, .ack, .ok, .ack, .byte b, .ok] ++ [none, none]) t
        = { s with
            busy := false, done := true, err := .ok, status := .idle, data := b, sstat := b
            buf := { s.buf with b0 := b }, upc := 63#6, seqkind := .none, nackcnt := 0#4, txhead := 0#6
            tocnt := tocntOnceCounted s, hostDelay := s.hostDelay - 16 } ∧
      busSeen (answered [.ok, .ack, .ack, .ok, .ack, .byte b, .ok] ++ [none, none]) t
        = [.start, .sendByte 0x70#8, .sendByte 0x71#8, .repeatedStart, .sendByte 0x71#8, .receiveByte true, .stop]

/-- R223, its success path, from any idle state, the bus answering each primitive at once and acknowledging
everything: SEQ_INIT waits 40 ms and reads the status byte; with the calibrated bit set it then ends, and with it
clear it first sends the initialisation command and waits 10 ms. That one clock cycle is one core step, and the order
of the answers given, are the model's (log entries 1 and 2). -/
def Obligations.SeqInitSuccessPath : Prop :=
  ∀ (s : State) (b : Byte), s.busy = false → s.phase = .idle → s.opState = .idle → s.waiting = false →
    ∃ t, exec .seqInit s = .next t ∧
      (b.getLsbD 3 = true → ∀ as, as = List.replicate (40 * Config.cyclesPerMs + 1) none
          ++ answered [.ok, .ack, .ack, .ok, .ack, .byte b, .ok] ++ [none, none, none] →
        (runCycles as t).busy = false ∧ (runCycles as t).done = true ∧ (runCycles as t).err = .ok ∧
        (runCycles as t).sstat = b ∧ (runCycles as t).phase = .idle ∧ (runCycles as t).upc = 63#6 ∧
        busSeen as t = [.start, .sendByte 0x70#8, .sendByte 0x71#8, .repeatedStart, .sendByte 0x71#8,
          .receiveByte true, .stop]) ∧
      (b.getLsbD 3 = false → ∀ as, as = List.replicate (40 * Config.cyclesPerMs + 1) none
          ++ answered [.ok, .ack, .ack, .ok, .ack, .byte b, .ok] ++ [none, none]
          ++ answered [.ok, .ack, .ack, .ack, .ack, .ok] ++ List.replicate (10 * Config.cyclesPerMs + 1) none
          ++ [none] →
        (runCycles as t).busy = false ∧ (runCycles as t).done = true ∧ (runCycles as t).err = .ok ∧
        (runCycles as t).sstat = b ∧ (runCycles as t).phase = .idle ∧ (runCycles as t).upc = 63#6 ∧
        busSeen as t = [.start, .sendByte 0x70#8, .sendByte 0x71#8, .repeatedStart, .sendByte 0x71#8,
          .receiveByte true, .stop, .start, .sendByte 0x70#8, .sendByte 0xBE#8, .sendByte 0x08#8, .sendByte 0x00#8,
          .stop])

/-- R224, its success path with the first read not busy, from any idle state: the six bytes are handed over, VALID
rises, and the bus sees the trigger, and after 80 ms one read acknowledged as [1, 1, 1, 1, 1, 0]. That one clock cycle
is one core step, the order of the answers given, the value of tocnt after a completion, and the host's DELAY, are the
model's (log entries 1, 2, 5 and 13). -/
def Obligations.SeqMeasureSuccessPath : Prop :=
  ∀ (s : State) (r : Reading), s.busy = false → s.phase = .idle → s.opState = .idle → s.waiting = false →
    r.b0.getLsbD 7 = false →
    ∃ t, exec .seqMeasure s = .next t ∧ ∀ as, as = answered [.ok, .ack, .ack, .ack, .ack, .ok]
        ++ List.replicate (80 * Config.cyclesPerMs + 1) none
        ++ answered [.ok, .ack, .byte r.b0, .byte r.b1, .byte r.b2, .byte r.b3, .byte r.b4, .byte r.b5, .ok]
        ++ [none, none, none] →
      runCycles as t
        = { s with
            busy := false, done := true, valid := true, err := .ok, attempts := 1#9, status := .idle
            data := r.b5, raw := r, buf := r, upc := 63#6, seqkind := .none, nackcnt := 0#4, txhead := 34#6
            waitcnt := 0#32, tocnt := tocntOnceCounted s, hostDelay := s.hostDelay - as.length } ∧
      busSeen as t
        = [.start, .sendByte 0x70#8, .sendByte 0xAC#8, .sendByte 0x33#8, .sendByte 0x00#8, .stop,
           .start, .sendByte 0x71#8, .receiveByte true, .receiveByte true, .receiveByte true, .receiveByte true,
           .receiveByte true, .receiveByte false, .stop]

/-- R227: with the timeout enabled, every primitive and every sequence under way ends within a bounded number of core
clock cycles, whatever the bus answers. That one clock cycle is one core step, and the order of the answers given, are
the model's (log entries 1 and 2). -/
def Obligations.EverySequenceFinishes : Prop :=
  ∀ (s : State), s.inv = true → s.timeoutMs ≠ 0#8 →
    ∃ n, ∀ answers : List (Option BusOutcome), n ≤ answers.length → (runCycles answers s).busy = false

/-! ## Invariants -/

/-- Reset is a coherent state. -/
def Obligations.ResetIsCoherent : Prop := State.reset.inv = true

/-- Every step from a coherent state leads to a coherent state: BUSY, DONE, PHASE, upc, op_state, the counters, ERR
and ATTEMPTS stay as R33, R34, R36, R44 to R46, R51 and the derivations of R155, R205, R209, R213, R216, R218 and R220
say. The turn that stands for the host's access is the model's (log entry 1). -/
def Obligations.StepKeepsCoherence : Prop :=
  ∀ (s t : State), s.inv = true → step s = .next t → t.inv = true

/-- R95, R200: in a coherent state a running sequence is atomic: every command but NOP is dropped with OVR. -/
def Obligations.RunningSequenceDropsCommands : Prop :=
  ∀ (s : State) (i : Instr), s.inv = true → s.seqkind ≠ .none → i ≠ .nop →
    exec i s = .next { s with ovr := true } ∧ s.busy = true

/-- R270: the core raises no exception. A step always answers a next state, but for a pseudo-instruction of the host
program whose argument is out of the range of R121 or R123; one in range is replaced by its expansion. That there is no
fault, that a refusal comes in the host turn that reaches the line, and that the replacement takes one host turn without
an access, are the model's (log entries 17, 24 and 25), and so is the turn (log entry 1). -/
def Obligations.StepAlwaysAnswers : Prop :=
  (∀ (s : State), (∃ t, step s = .next t) ∨
    ((takeTurn s).1 = .host ∧ s.hostDelay = 0 ∧ ∃ c rest, s.host = .call c :: rest ∧
      ((c.divisorInRange Config.fCoreHz = false ∧ step s = .refused .divisorOutOfRange) ∨
        (c.addressInRange = false ∧ step s = .refused .addressAbove127)))) ∧
  (∀ (s : State) (ts : List Turn) (c : HostCall) (rest : List HostLine), s.turns = .host :: ts → s.hostDelay = 0 →
    s.host = .call c :: rest →
    (c.divisorInRange Config.fCoreHz = false → step s = .refused .divisorOutOfRange) ∧
    (c.addressInRange = false → step s = .refused .addressAbove127) ∧
    (c.divisorInRange Config.fCoreHz = true → c.addressInRange = true →
      ∃ ls, expand Config.fCoreHz c = .ok ls ∧ step s = .next { afterTurn ts s with host := ls ++ rest }))

/-- R271, R40: the fourteen status codes by name, that STAT reads the current one in every state, and so no other value.
The numbers are the spec's own choice (log entry 19). -/
def Obligations.StatusCodesAreTheTable : Prop :=
  BusStatus.startSent.code = 0x08#8 ∧ BusStatus.restartSent.code = 0x10#8 ∧ BusStatus.slawAck.code = 0x18#8 ∧
  BusStatus.slawNack.code = 0x20#8 ∧ BusStatus.dataTxAck.code = 0x28#8 ∧ BusStatus.dataTxNack.code = 0x30#8 ∧
  BusStatus.arbLost.code = 0x38#8 ∧ BusStatus.slarAck.code = 0x40#8 ∧ BusStatus.slarNack.code = 0x48#8 ∧
  BusStatus.dataRxAck.code = 0x50#8 ∧ BusStatus.dataRxNack.code = 0x58#8 ∧ BusStatus.idle.code = 0xF8#8 ∧
  BusStatus.busTimeout.code = 0xE0#8 ∧ BusStatus.illegal.code = 0x00#8 ∧
  ∀ (s : State), memRead s 0x08#8 = s.status.code.setWidth 32 ∧
    memRead s 0x08#8 ∈ [0x08#32, 0x10#32, 0x18#32, 0x20#32, 0x28#32, 0x30#32, 0x38#32, 0x40#32, 0x48#32, 0x50#32,
      0x58#32, 0xF8#32, 0xE0#32, 0x00#32]

/-! ## The decoder -/

/-- R250, R251: the words HUM20 and TEMP20 read as, as numbers; every 20-bit value is reachable. -/
def Obligations.FractionsAreUnpacked : Prop :=
  (∀ (s : State),
    (memRead s 0x38#8).toNat = s.raw.b1.toNat * 2 ^ 12 + s.raw.b2.toNat * 2 ^ 4 + s.raw.b3.toNat / 16 ∧
    (memRead s 0x3C#8).toNat = s.raw.b3.toNat % 16 * 2 ^ 16 + s.raw.b4.toNat * 2 ^ 8 + s.raw.b5.toNat) ∧
  (∀ (n : Nat), n < 2 ^ 20 → ∃ s : State, (memRead s 0x38#8).toNat = n ∧ (memRead s 0x3C#8).toNat = n)

/-- R252: HUM_PCT is floor(humidity20 × 25 / 2^18), in 0 to 99. -/
def Obligations.HumidityPercentIsExact : Prop :=
  ∀ (s : State),
    (memRead s 0x40#8).toNat = (memRead s 0x38#8).toNat * 25 / 2 ^ 18 ∧ (memRead s 0x40#8).toNat ≤ 99

/-- R253: TEMP_C is floor(temperature20 × 25 / 2^17) − 50 in two's complement, in −50 to 149. -/
def Obligations.TemperatureIsExact : Prop :=
  ∀ (s : State),
    (memRead s 0x44#8).toInt = (((memRead s 0x3C#8).toNat * 25 / 2 ^ 17 : Nat) : Int) - 50 ∧
    -50 ≤ (memRead s 0x44#8).toInt ∧ (memRead s 0x44#8).toInt ≤ 149

/-- R257: the inverse packing is recovered exactly. -/
def Obligations.InversePackingIsRecovered : Prop :=
  ∀ (b0 : Byte) (h t : BitVec 20),
    humidity20 (packReading b0 h t) = h ∧ temperature20 (packReading b0 h t) = t

/-- R49, R254: the decoded registers are functions of RAW1..RAW5 alone: not of RAW0, VALID, BUSY or anything else. -/
def Obligations.DecodedRegistersDependOnRaw1To5Alone : Prop :=
  ∀ (s s' : State) (off : Offset), s.raw.b1 = s'.raw.b1 → s.raw.b2 = s'.raw.b2 → s.raw.b3 = s'.raw.b3 →
    s.raw.b4 = s'.raw.b4 → s.raw.b5 = s'.raw.b5 → 0x38 ≤ off.toNat → off.toNat ≤ 0x47 →
    memRead s off = memRead s' off

/-! ## Host programs -/

/-- R121, R123: `i2c.init` is refused exactly when F_CORE_HZ / f < 16 or the divisor exceeds 255, and the address
calls exactly when a > 127; otherwise they write DIV, or DATA and CMD. R121 gives no quotient for f = 0: that this
case is refused too is the model's choice (log entry 24). -/
def Obligations.PseudoInstructionsAreExpandedOrRefused : Prop :=
  (∀ hz f : Nat, (hz / f < 16 ∨ 255 < (hz / f - 16) / 2 → expand hz (.i2cInit f) = .error .divisorOutOfRange) ∧
    (16 ≤ hz / f → (hz / f - 16) / 2 ≤ 255 →
      expand hz (.i2cInit f) = .ok [.wr 0x10#8 (BitVec.ofNat 32 ((hz / f - 16) / 2))])) ∧
  (∀ hz a : Nat, (127 < a → expand hz (.i2cAddrW a) = .error .addressAbove127 ∧
      expand hz (.i2cAddrR a) = .error .addressAbove127) ∧
    (a ≤ 127 →
      expand hz (.i2cAddrW a) = .ok [.wr 0x0C#8 (BitVec.ofNat 32 (2 * a)), .wr 0x00#8 0x02#32,
        .poll 0x04#8 0x1#32 0#32, .rd 0x08#8] ∧
      expand hz (.i2cAddrR a) = .ok [.wr 0x0C#8 (BitVec.ofNat 32 (2 * a + 1)), .wr 0x00#8 0x02#32,
        .poll 0x04#8 0x1#32 0#32, .rd 0x08#8]))

/-- R117, R120: a POLL line stays the host's next line, the core unchanged, until the value read has the bits asked
for. The turn that stands for the host's access is the model's (log entry 1). -/
def Obligations.PollRepeatsUntilItMatches : Prop :=
  ∀ (s : State) (ts : List Turn) (off : Offset) (mask value : Word) (rest : List HostLine),
    s.turns = .host :: ts → s.hostDelay = 0 → s.host = .poll off mask value :: rest →
    step s = .next { afterTurn ts s with
      rdata := memRead s off
      host := if memRead s off &&& mask = value then rest else s.host }
end

