-- ==== Sys2Proof/Laws/State.lean ====
section
/-! SUPPORT. What each update of the state leaves in each field: one lemma per field per update, so that no later proof
unfolds a record update. -/

namespace Sys2Proof.Machine

/-! ### overrun -/

@[simp] theorem overrun_busy (s : State) : (overrun s).busy = s.busy := rfl
@[simp] theorem overrun_done (s : State) : (overrun s).done = s.done := rfl
@[simp] theorem overrun_ovr (s : State) : (overrun s).ovr = true := rfl
@[simp] theorem overrun_valid (s : State) : (overrun s).valid = s.valid := rfl
@[simp] theorem overrun_phase (s : State) : (overrun s).phase = s.phase := rfl
@[simp] theorem overrun_upc (s : State) : (overrun s).upc = s.upc := rfl
@[simp] theorem overrun_status (s : State) : (overrun s).status = s.status := rfl
@[simp] theorem overrun_data (s : State) : (overrun s).data = s.data := rfl
@[simp] theorem overrun_div (s : State) : (overrun s).div = s.div := rfl
@[simp] theorem overrun_busyRetries (s : State) : (overrun s).busyRetries = s.busyRetries := rfl
@[simp] theorem overrun_nackRetries (s : State) : (overrun s).nackRetries = s.nackRetries := rfl
@[simp] theorem overrun_timeoutMs (s : State) : (overrun s).timeoutMs = s.timeoutMs := rfl
@[simp] theorem overrun_err (s : State) : (overrun s).err = s.err := rfl
@[simp] theorem overrun_attempts (s : State) : (overrun s).attempts = s.attempts := rfl
@[simp] theorem overrun_sstat (s : State) : (overrun s).sstat = s.sstat := rfl
@[simp] theorem overrun_raw (s : State) : (overrun s).raw = s.raw := rfl
@[simp] theorem overrun_opState (s : State) : (overrun s).opState = s.opState := rfl
@[simp] theorem overrun_tocnt (s : State) : (overrun s).tocnt = s.tocnt := rfl
@[simp] theorem overrun_waitcnt (s : State) : (overrun s).waitcnt = s.waitcnt := rfl
@[simp] theorem overrun_nackcnt (s : State) : (overrun s).nackcnt = s.nackcnt := rfl
@[simp] theorem overrun_txhead (s : State) : (overrun s).txhead = s.txhead := rfl
@[simp] theorem overrun_buf (s : State) : (overrun s).buf = s.buf := rfl
@[simp] theorem overrun_seqkind (s : State) : (overrun s).seqkind = s.seqkind := rfl
@[simp] theorem overrun_waiting (s : State) : (overrun s).waiting = s.waiting := rfl
@[simp] theorem overrun_rdata (s : State) : (overrun s).rdata = s.rdata := rfl
@[simp] theorem overrun_host (s : State) : (overrun s).host = s.host := rfl
@[simp] theorem overrun_hostDelay (s : State) : (overrun s).hostDelay = s.hostDelay := rfl
@[simp] theorem overrun_turns (s : State) : (overrun s).turns = s.turns := rfl
@[simp] theorem overrun_taken (s : State) : (overrun s).taken = s.taken := rfl

/-! ### writeCsr -/

@[simp] theorem writeCsr_busy (v : Word) (s : State) : (writeCsr v s).busy = s.busy := rfl
@[simp] theorem writeCsr_done (v : Word) (s : State) : (writeCsr v s).done = s.done := rfl
@[simp] theorem writeCsr_ovr (v : Word) (s : State) : (writeCsr v s).ovr = (s.ovr && !csrClearsOvr v) := rfl
@[simp] theorem writeCsr_valid (v : Word) (s : State) : (writeCsr v s).valid = s.valid := rfl
@[simp] theorem writeCsr_phase (v : Word) (s : State) : (writeCsr v s).phase = s.phase := rfl
@[simp] theorem writeCsr_upc (v : Word) (s : State) : (writeCsr v s).upc = s.upc := rfl
@[simp] theorem writeCsr_status (v : Word) (s : State) : (writeCsr v s).status = s.status := rfl
@[simp] theorem writeCsr_data (v : Word) (s : State) : (writeCsr v s).data = s.data := rfl
@[simp] theorem writeCsr_div (v : Word) (s : State) : (writeCsr v s).div = s.div := rfl
@[simp] theorem writeCsr_busyRetries (v : Word) (s : State) : (writeCsr v s).busyRetries = s.busyRetries := rfl
@[simp] theorem writeCsr_nackRetries (v : Word) (s : State) : (writeCsr v s).nackRetries = s.nackRetries := rfl
@[simp] theorem writeCsr_timeoutMs (v : Word) (s : State) : (writeCsr v s).timeoutMs = s.timeoutMs := rfl
@[simp] theorem writeCsr_err (v : Word) (s : State) : (writeCsr v s).err = s.err := rfl
@[simp] theorem writeCsr_attempts (v : Word) (s : State) : (writeCsr v s).attempts = s.attempts := rfl
@[simp] theorem writeCsr_sstat (v : Word) (s : State) : (writeCsr v s).sstat = s.sstat := rfl
@[simp] theorem writeCsr_raw (v : Word) (s : State) : (writeCsr v s).raw = s.raw := rfl
@[simp] theorem writeCsr_opState (v : Word) (s : State) : (writeCsr v s).opState = s.opState := rfl
@[simp] theorem writeCsr_tocnt (v : Word) (s : State) : (writeCsr v s).tocnt = s.tocnt := rfl
@[simp] theorem writeCsr_waitcnt (v : Word) (s : State) : (writeCsr v s).waitcnt = s.waitcnt := rfl
@[simp] theorem writeCsr_nackcnt (v : Word) (s : State) : (writeCsr v s).nackcnt = s.nackcnt := rfl
@[simp] theorem writeCsr_txhead (v : Word) (s : State) : (writeCsr v s).txhead = s.txhead := rfl
@[simp] theorem writeCsr_buf (v : Word) (s : State) : (writeCsr v s).buf = s.buf := rfl
@[simp] theorem writeCsr_seqkind (v : Word) (s : State) : (writeCsr v s).seqkind = s.seqkind := rfl
@[simp] theorem writeCsr_waiting (v : Word) (s : State) : (writeCsr v s).waiting = s.waiting := rfl
@[simp] theorem writeCsr_rdata (v : Word) (s : State) : (writeCsr v s).rdata = s.rdata := rfl
@[simp] theorem writeCsr_host (v : Word) (s : State) : (writeCsr v s).host = s.host := rfl
@[simp] theorem writeCsr_hostDelay (v : Word) (s : State) : (writeCsr v s).hostDelay = s.hostDelay := rfl
@[simp] theorem writeCsr_turns (v : Word) (s : State) : (writeCsr v s).turns = s.turns := rfl
@[simp] theorem writeCsr_taken (v : Word) (s : State) : (writeCsr v s).taken = s.taken := rfl

/-! ### writeData -/

@[simp] theorem writeData_busy (v : Word) (s : State) : (writeData v s).busy = s.busy := rfl
@[simp] theorem writeData_done (v : Word) (s : State) : (writeData v s).done = s.done := rfl
@[simp] theorem writeData_ovr (v : Word) (s : State) : (writeData v s).ovr = s.ovr := rfl
@[simp] theorem writeData_valid (v : Word) (s : State) : (writeData v s).valid = s.valid := rfl
@[simp] theorem writeData_phase (v : Word) (s : State) : (writeData v s).phase = s.phase := rfl
@[simp] theorem writeData_upc (v : Word) (s : State) : (writeData v s).upc = s.upc := rfl
@[simp] theorem writeData_status (v : Word) (s : State) : (writeData v s).status = s.status := rfl
@[simp] theorem writeData_data (v : Word) (s : State) : (writeData v s).data = lowByte v := rfl
@[simp] theorem writeData_div (v : Word) (s : State) : (writeData v s).div = s.div := rfl
@[simp] theorem writeData_busyRetries (v : Word) (s : State) : (writeData v s).busyRetries = s.busyRetries := rfl
@[simp] theorem writeData_nackRetries (v : Word) (s : State) : (writeData v s).nackRetries = s.nackRetries := rfl
@[simp] theorem writeData_timeoutMs (v : Word) (s : State) : (writeData v s).timeoutMs = s.timeoutMs := rfl
@[simp] theorem writeData_err (v : Word) (s : State) : (writeData v s).err = s.err := rfl
@[simp] theorem writeData_attempts (v : Word) (s : State) : (writeData v s).attempts = s.attempts := rfl
@[simp] theorem writeData_sstat (v : Word) (s : State) : (writeData v s).sstat = s.sstat := rfl
@[simp] theorem writeData_raw (v : Word) (s : State) : (writeData v s).raw = s.raw := rfl
@[simp] theorem writeData_opState (v : Word) (s : State) : (writeData v s).opState = s.opState := rfl
@[simp] theorem writeData_tocnt (v : Word) (s : State) : (writeData v s).tocnt = s.tocnt := rfl
@[simp] theorem writeData_waitcnt (v : Word) (s : State) : (writeData v s).waitcnt = s.waitcnt := rfl
@[simp] theorem writeData_nackcnt (v : Word) (s : State) : (writeData v s).nackcnt = s.nackcnt := rfl
@[simp] theorem writeData_txhead (v : Word) (s : State) : (writeData v s).txhead = s.txhead := rfl
@[simp] theorem writeData_buf (v : Word) (s : State) : (writeData v s).buf = s.buf := rfl
@[simp] theorem writeData_seqkind (v : Word) (s : State) : (writeData v s).seqkind = s.seqkind := rfl
@[simp] theorem writeData_waiting (v : Word) (s : State) : (writeData v s).waiting = s.waiting := rfl
@[simp] theorem writeData_rdata (v : Word) (s : State) : (writeData v s).rdata = s.rdata := rfl
@[simp] theorem writeData_host (v : Word) (s : State) : (writeData v s).host = s.host := rfl
@[simp] theorem writeData_hostDelay (v : Word) (s : State) : (writeData v s).hostDelay = s.hostDelay := rfl
@[simp] theorem writeData_turns (v : Word) (s : State) : (writeData v s).turns = s.turns := rfl
@[simp] theorem writeData_taken (v : Word) (s : State) : (writeData v s).taken = s.taken := rfl

/-! ### writeDiv -/

@[simp] theorem writeDiv_busy (v : Word) (s : State) : (writeDiv v s).busy = s.busy := rfl
@[simp] theorem writeDiv_done (v : Word) (s : State) : (writeDiv v s).done = s.done := rfl
@[simp] theorem writeDiv_ovr (v : Word) (s : State) : (writeDiv v s).ovr = s.ovr := rfl
@[simp] theorem writeDiv_valid (v : Word) (s : State) : (writeDiv v s).valid = s.valid := rfl
@[simp] theorem writeDiv_phase (v : Word) (s : State) : (writeDiv v s).phase = s.phase := rfl
@[simp] theorem writeDiv_upc (v : Word) (s : State) : (writeDiv v s).upc = s.upc := rfl
@[simp] theorem writeDiv_status (v : Word) (s : State) : (writeDiv v s).status = s.status := rfl
@[simp] theorem writeDiv_data (v : Word) (s : State) : (writeDiv v s).data = s.data := rfl
@[simp] theorem writeDiv_div (v : Word) (s : State) : (writeDiv v s).div = lowByte v := rfl
@[simp] theorem writeDiv_busyRetries (v : Word) (s : State) : (writeDiv v s).busyRetries = s.busyRetries := rfl
@[simp] theorem writeDiv_nackRetries (v : Word) (s : State) : (writeDiv v s).nackRetries = s.nackRetries := rfl
@[simp] theorem writeDiv_timeoutMs (v : Word) (s : State) : (writeDiv v s).timeoutMs = s.timeoutMs := rfl
@[simp] theorem writeDiv_err (v : Word) (s : State) : (writeDiv v s).err = s.err := rfl
@[simp] theorem writeDiv_attempts (v : Word) (s : State) : (writeDiv v s).attempts = s.attempts := rfl
@[simp] theorem writeDiv_sstat (v : Word) (s : State) : (writeDiv v s).sstat = s.sstat := rfl
@[simp] theorem writeDiv_raw (v : Word) (s : State) : (writeDiv v s).raw = s.raw := rfl
@[simp] theorem writeDiv_opState (v : Word) (s : State) : (writeDiv v s).opState = s.opState := rfl
@[simp] theorem writeDiv_tocnt (v : Word) (s : State) : (writeDiv v s).tocnt = s.tocnt := rfl
@[simp] theorem writeDiv_waitcnt (v : Word) (s : State) : (writeDiv v s).waitcnt = s.waitcnt := rfl
@[simp] theorem writeDiv_nackcnt (v : Word) (s : State) : (writeDiv v s).nackcnt = s.nackcnt := rfl
@[simp] theorem writeDiv_txhead (v : Word) (s : State) : (writeDiv v s).txhead = s.txhead := rfl
@[simp] theorem writeDiv_buf (v : Word) (s : State) : (writeDiv v s).buf = s.buf := rfl
@[simp] theorem writeDiv_seqkind (v : Word) (s : State) : (writeDiv v s).seqkind = s.seqkind := rfl
@[simp] theorem writeDiv_waiting (v : Word) (s : State) : (writeDiv v s).waiting = s.waiting := rfl
@[simp] theorem writeDiv_rdata (v : Word) (s : State) : (writeDiv v s).rdata = s.rdata := rfl
@[simp] theorem writeDiv_host (v : Word) (s : State) : (writeDiv v s).host = s.host := rfl
@[simp] theorem writeDiv_hostDelay (v : Word) (s : State) : (writeDiv v s).hostDelay = s.hostDelay := rfl
@[simp] theorem writeDiv_turns (v : Word) (s : State) : (writeDiv v s).turns = s.turns := rfl
@[simp] theorem writeDiv_taken (v : Word) (s : State) : (writeDiv v s).taken = s.taken := rfl

/-! ### writeCfg -/

@[simp] theorem writeCfg_busy (v : Word) (s : State) : (writeCfg v s).busy = s.busy := rfl
@[simp] theorem writeCfg_done (v : Word) (s : State) : (writeCfg v s).done = s.done := rfl
@[simp] theorem writeCfg_ovr (v : Word) (s : State) : (writeCfg v s).ovr = s.ovr := rfl
@[simp] theorem writeCfg_valid (v : Word) (s : State) : (writeCfg v s).valid = s.valid := rfl
@[simp] theorem writeCfg_phase (v : Word) (s : State) : (writeCfg v s).phase = s.phase := rfl
@[simp] theorem writeCfg_upc (v : Word) (s : State) : (writeCfg v s).upc = s.upc := rfl
@[simp] theorem writeCfg_status (v : Word) (s : State) : (writeCfg v s).status = s.status := rfl
@[simp] theorem writeCfg_data (v : Word) (s : State) : (writeCfg v s).data = s.data := rfl
@[simp] theorem writeCfg_div (v : Word) (s : State) : (writeCfg v s).div = s.div := rfl
@[simp] theorem writeCfg_busyRetries (v : Word) (s : State) : (writeCfg v s).busyRetries = lowByte v := rfl
@[simp] theorem writeCfg_nackRetries (v : Word) (s : State) : (writeCfg v s).nackRetries = cfgNackRetries v := rfl
@[simp] theorem writeCfg_timeoutMs (v : Word) (s : State) : (writeCfg v s).timeoutMs = cfgTimeoutMs v := rfl
@[simp] theorem writeCfg_err (v : Word) (s : State) : (writeCfg v s).err = s.err := rfl
@[simp] theorem writeCfg_attempts (v : Word) (s : State) : (writeCfg v s).attempts = s.attempts := rfl
@[simp] theorem writeCfg_sstat (v : Word) (s : State) : (writeCfg v s).sstat = s.sstat := rfl
@[simp] theorem writeCfg_raw (v : Word) (s : State) : (writeCfg v s).raw = s.raw := rfl
@[simp] theorem writeCfg_opState (v : Word) (s : State) : (writeCfg v s).opState = s.opState := rfl
@[simp] theorem writeCfg_tocnt (v : Word) (s : State) : (writeCfg v s).tocnt = s.tocnt := rfl
@[simp] theorem writeCfg_waitcnt (v : Word) (s : State) : (writeCfg v s).waitcnt = s.waitcnt := rfl
@[simp] theorem writeCfg_nackcnt (v : Word) (s : State) : (writeCfg v s).nackcnt = s.nackcnt := rfl
@[simp] theorem writeCfg_txhead (v : Word) (s : State) : (writeCfg v s).txhead = s.txhead := rfl
@[simp] theorem writeCfg_buf (v : Word) (s : State) : (writeCfg v s).buf = s.buf := rfl
@[simp] theorem writeCfg_seqkind (v : Word) (s : State) : (writeCfg v s).seqkind = s.seqkind := rfl
@[simp] theorem writeCfg_waiting (v : Word) (s : State) : (writeCfg v s).waiting = s.waiting := rfl
@[simp] theorem writeCfg_rdata (v : Word) (s : State) : (writeCfg v s).rdata = s.rdata := rfl
@[simp] theorem writeCfg_host (v : Word) (s : State) : (writeCfg v s).host = s.host := rfl
@[simp] theorem writeCfg_hostDelay (v : Word) (s : State) : (writeCfg v s).hostDelay = s.hostDelay := rfl
@[simp] theorem writeCfg_turns (v : Word) (s : State) : (writeCfg v s).turns = s.turns := rfl
@[simp] theorem writeCfg_taken (v : Word) (s : State) : (writeCfg v s).taken = s.taken := rfl

/-! ### writeRaw -/

@[simp] theorem writeRaw_busy (k : Fin 6) (v : Word) (s : State) : (writeRaw k v s).busy = s.busy := rfl
@[simp] theorem writeRaw_done (k : Fin 6) (v : Word) (s : State) : (writeRaw k v s).done = s.done := rfl
@[simp] theorem writeRaw_ovr (k : Fin 6) (v : Word) (s : State) : (writeRaw k v s).ovr = s.ovr := rfl
@[simp] theorem writeRaw_valid (k : Fin 6) (v : Word) (s : State) : (writeRaw k v s).valid = false := rfl
@[simp] theorem writeRaw_phase (k : Fin 6) (v : Word) (s : State) : (writeRaw k v s).phase = s.phase := rfl
@[simp] theorem writeRaw_upc (k : Fin 6) (v : Word) (s : State) : (writeRaw k v s).upc = s.upc := rfl
@[simp] theorem writeRaw_status (k : Fin 6) (v : Word) (s : State) : (writeRaw k v s).status = s.status := rfl
@[simp] theorem writeRaw_data (k : Fin 6) (v : Word) (s : State) : (writeRaw k v s).data = s.data := rfl
@[simp] theorem writeRaw_div (k : Fin 6) (v : Word) (s : State) : (writeRaw k v s).div = s.div := rfl
@[simp] theorem writeRaw_busyRetries (k : Fin 6) (v : Word) (s : State) : (writeRaw k v s).busyRetries = s.busyRetries :=
  rfl
@[simp] theorem writeRaw_nackRetries (k : Fin 6) (v : Word) (s : State) : (writeRaw k v s).nackRetries = s.nackRetries :=
  rfl
@[simp] theorem writeRaw_timeoutMs (k : Fin 6) (v : Word) (s : State) : (writeRaw k v s).timeoutMs = s.timeoutMs :=
  rfl
@[simp] theorem writeRaw_err (k : Fin 6) (v : Word) (s : State) : (writeRaw k v s).err = s.err := rfl
@[simp] theorem writeRaw_attempts (k : Fin 6) (v : Word) (s : State) : (writeRaw k v s).attempts = s.attempts := rfl
@[simp] theorem writeRaw_sstat (k : Fin 6) (v : Word) (s : State) : (writeRaw k v s).sstat = s.sstat := rfl
@[simp] theorem writeRaw_raw (k : Fin 6) (v : Word) (s : State) : (writeRaw k v s).raw = s.raw.set k (lowByte v) :=
  rfl
@[simp] theorem writeRaw_opState (k : Fin 6) (v : Word) (s : State) : (writeRaw k v s).opState = s.opState := rfl
@[simp] theorem writeRaw_tocnt (k : Fin 6) (v : Word) (s : State) : (writeRaw k v s).tocnt = s.tocnt := rfl
@[simp] theorem writeRaw_waitcnt (k : Fin 6) (v : Word) (s : State) : (writeRaw k v s).waitcnt = s.waitcnt := rfl
@[simp] theorem writeRaw_nackcnt (k : Fin 6) (v : Word) (s : State) : (writeRaw k v s).nackcnt = s.nackcnt := rfl
@[simp] theorem writeRaw_txhead (k : Fin 6) (v : Word) (s : State) : (writeRaw k v s).txhead = s.txhead := rfl
@[simp] theorem writeRaw_buf (k : Fin 6) (v : Word) (s : State) : (writeRaw k v s).buf = s.buf := rfl
@[simp] theorem writeRaw_seqkind (k : Fin 6) (v : Word) (s : State) : (writeRaw k v s).seqkind = s.seqkind := rfl
@[simp] theorem writeRaw_waiting (k : Fin 6) (v : Word) (s : State) : (writeRaw k v s).waiting = s.waiting := rfl
@[simp] theorem writeRaw_rdata (k : Fin 6) (v : Word) (s : State) : (writeRaw k v s).rdata = s.rdata := rfl
@[simp] theorem writeRaw_host (k : Fin 6) (v : Word) (s : State) : (writeRaw k v s).host = s.host := rfl
@[simp] theorem writeRaw_hostDelay (k : Fin 6) (v : Word) (s : State) : (writeRaw k v s).hostDelay = s.hostDelay :=
  rfl
@[simp] theorem writeRaw_turns (k : Fin 6) (v : Word) (s : State) : (writeRaw k v s).turns = s.turns := rfl
@[simp] theorem writeRaw_taken (k : Fin 6) (v : Word) (s : State) : (writeRaw k v s).taken = s.taken := rfl

/-! ### acceptPrimitive -/

@[simp] theorem acceptPrimitive_busy (p : Prim) (s : State) : (acceptPrimitive p s).busy = true := rfl
@[simp] theorem acceptPrimitive_done (p : Prim) (s : State) : (acceptPrimitive p s).done = false := rfl
@[simp] theorem acceptPrimitive_ovr (p : Prim) (s : State) : (acceptPrimitive p s).ovr = s.ovr := rfl
@[simp] theorem acceptPrimitive_valid (p : Prim) (s : State) : (acceptPrimitive p s).valid = s.valid := rfl
@[simp] theorem acceptPrimitive_phase (p : Prim) (s : State) : (acceptPrimitive p s).phase = s.phase := rfl
@[simp] theorem acceptPrimitive_upc (p : Prim) (s : State) : (acceptPrimitive p s).upc = s.upc := rfl
@[simp] theorem acceptPrimitive_status (p : Prim) (s : State) : (acceptPrimitive p s).status = s.status := rfl
@[simp] theorem acceptPrimitive_data (p : Prim) (s : State) : (acceptPrimitive p s).data = s.data := rfl
@[simp] theorem acceptPrimitive_div (p : Prim) (s : State) : (acceptPrimitive p s).div = s.div := rfl
@[simp] theorem acceptPrimitive_busyRetries (p : Prim) (s : State) : (acceptPrimitive p s).busyRetries = s.busyRetries :=
  rfl
@[simp] theorem acceptPrimitive_nackRetries (p : Prim) (s : State) : (acceptPrimitive p s).nackRetries = s.nackRetries :=
  rfl
@[simp] theorem acceptPrimitive_timeoutMs (p : Prim) (s : State) : (acceptPrimitive p s).timeoutMs = s.timeoutMs :=
  rfl
@[simp] theorem acceptPrimitive_err (p : Prim) (s : State) : (acceptPrimitive p s).err = s.err := rfl
@[simp] theorem acceptPrimitive_attempts (p : Prim) (s : State) : (acceptPrimitive p s).attempts = s.attempts := rfl
@[simp] theorem acceptPrimitive_sstat (p : Prim) (s : State) : (acceptPrimitive p s).sstat = s.sstat := rfl
@[simp] theorem acceptPrimitive_raw (p : Prim) (s : State) : (acceptPrimitive p s).raw = s.raw := rfl
@[simp] theorem acceptPrimitive_opState (p : Prim) (s : State) : (acceptPrimitive p s).opState = .inFlight p .host :=
  rfl
@[simp] theorem acceptPrimitive_tocnt (p : Prim) (s : State) : (acceptPrimitive p s).tocnt = timeoutLoad s := rfl
@[simp] theorem acceptPrimitive_waitcnt (p : Prim) (s : State) : (acceptPrimitive p s).waitcnt = s.waitcnt := rfl
@[simp] theorem acceptPrimitive_nackcnt (p : Prim) (s : State) : (acceptPrimitive p s).nackcnt = s.nackcnt := rfl
@[simp] theorem acceptPrimitive_txhead (p : Prim) (s : State) : (acceptPrimitive p s).txhead = s.txhead := rfl
@[simp] theorem acceptPrimitive_buf (p : Prim) (s : State) : (acceptPrimitive p s).buf = s.buf := rfl
@[simp] theorem acceptPrimitive_seqkind (p : Prim) (s : State) : (acceptPrimitive p s).seqkind = s.seqkind := rfl
@[simp] theorem acceptPrimitive_waiting (p : Prim) (s : State) : (acceptPrimitive p s).waiting = s.waiting := rfl
@[simp] theorem acceptPrimitive_rdata (p : Prim) (s : State) : (acceptPrimitive p s).rdata = s.rdata := rfl
@[simp] theorem acceptPrimitive_host (p : Prim) (s : State) : (acceptPrimitive p s).host = s.host := rfl
@[simp] theorem acceptPrimitive_hostDelay (p : Prim) (s : State) : (acceptPrimitive p s).hostDelay = s.hostDelay :=
  rfl
@[simp] theorem acceptPrimitive_turns (p : Prim) (s : State) : (acceptPrimitive p s).turns = s.turns := rfl
@[simp] theorem acceptPrimitive_taken (p : Prim) (s : State) : (acceptPrimitive p s).taken = s.taken := rfl

/-! ### reportIllegal -/

@[simp] theorem reportIllegal_busy (s : State) : (reportIllegal s).busy = s.busy := rfl
@[simp] theorem reportIllegal_done (s : State) : (reportIllegal s).done = true := rfl
@[simp] theorem reportIllegal_ovr (s : State) : (reportIllegal s).ovr = s.ovr := rfl
@[simp] theorem reportIllegal_valid (s : State) : (reportIllegal s).valid = s.valid := rfl
@[simp] theorem reportIllegal_phase (s : State) : (reportIllegal s).phase = s.phase := rfl
@[simp] theorem reportIllegal_upc (s : State) : (reportIllegal s).upc = s.upc := rfl
@[simp] theorem reportIllegal_status (s : State) : (reportIllegal s).status = .illegal := rfl
@[simp] theorem reportIllegal_data (s : State) : (reportIllegal s).data = s.data := rfl
@[simp] theorem reportIllegal_div (s : State) : (reportIllegal s).div = s.div := rfl
@[simp] theorem reportIllegal_busyRetries (s : State) : (reportIllegal s).busyRetries = s.busyRetries := rfl
@[simp] theorem reportIllegal_nackRetries (s : State) : (reportIllegal s).nackRetries = s.nackRetries := rfl
@[simp] theorem reportIllegal_timeoutMs (s : State) : (reportIllegal s).timeoutMs = s.timeoutMs := rfl
@[simp] theorem reportIllegal_err (s : State) : (reportIllegal s).err = s.err := rfl
@[simp] theorem reportIllegal_attempts (s : State) : (reportIllegal s).attempts = s.attempts := rfl
@[simp] theorem reportIllegal_sstat (s : State) : (reportIllegal s).sstat = s.sstat := rfl
@[simp] theorem reportIllegal_raw (s : State) : (reportIllegal s).raw = s.raw := rfl
@[simp] theorem reportIllegal_opState (s : State) : (reportIllegal s).opState = s.opState := rfl
@[simp] theorem reportIllegal_tocnt (s : State) : (reportIllegal s).tocnt = s.tocnt := rfl
@[simp] theorem reportIllegal_waitcnt (s : State) : (reportIllegal s).waitcnt = s.waitcnt := rfl
@[simp] theorem reportIllegal_nackcnt (s : State) : (reportIllegal s).nackcnt = s.nackcnt := rfl
@[simp] theorem reportIllegal_txhead (s : State) : (reportIllegal s).txhead = s.txhead := rfl
@[simp] theorem reportIllegal_buf (s : State) : (reportIllegal s).buf = s.buf := rfl
@[simp] theorem reportIllegal_seqkind (s : State) : (reportIllegal s).seqkind = s.seqkind := rfl
@[simp] theorem reportIllegal_waiting (s : State) : (reportIllegal s).waiting = s.waiting := rfl
@[simp] theorem reportIllegal_rdata (s : State) : (reportIllegal s).rdata = s.rdata := rfl
@[simp] theorem reportIllegal_host (s : State) : (reportIllegal s).host = s.host := rfl
@[simp] theorem reportIllegal_hostDelay (s : State) : (reportIllegal s).hostDelay = s.hostDelay := rfl
@[simp] theorem reportIllegal_turns (s : State) : (reportIllegal s).turns = s.turns := rfl
@[simp] theorem reportIllegal_taken (s : State) : (reportIllegal s).taken = s.taken := rfl

/-! ### reportIdleStop -/

@[simp] theorem reportIdleStop_busy (s : State) : (reportIdleStop s).busy = s.busy := rfl
@[simp] theorem reportIdleStop_done (s : State) : (reportIdleStop s).done = true := rfl
@[simp] theorem reportIdleStop_ovr (s : State) : (reportIdleStop s).ovr = s.ovr := rfl
@[simp] theorem reportIdleStop_valid (s : State) : (reportIdleStop s).valid = s.valid := rfl
@[simp] theorem reportIdleStop_phase (s : State) : (reportIdleStop s).phase = s.phase := rfl
@[simp] theorem reportIdleStop_upc (s : State) : (reportIdleStop s).upc = s.upc := rfl
@[simp] theorem reportIdleStop_status (s : State) : (reportIdleStop s).status = .idle := rfl
@[simp] theorem reportIdleStop_data (s : State) : (reportIdleStop s).data = s.data := rfl
@[simp] theorem reportIdleStop_div (s : State) : (reportIdleStop s).div = s.div := rfl
@[simp] theorem reportIdleStop_busyRetries (s : State) : (reportIdleStop s).busyRetries = s.busyRetries := rfl
@[simp] theorem reportIdleStop_nackRetries (s : State) : (reportIdleStop s).nackRetries = s.nackRetries := rfl
@[simp] theorem reportIdleStop_timeoutMs (s : State) : (reportIdleStop s).timeoutMs = s.timeoutMs := rfl
@[simp] theorem reportIdleStop_err (s : State) : (reportIdleStop s).err = s.err := rfl
@[simp] theorem reportIdleStop_attempts (s : State) : (reportIdleStop s).attempts = s.attempts := rfl
@[simp] theorem reportIdleStop_sstat (s : State) : (reportIdleStop s).sstat = s.sstat := rfl
@[simp] theorem reportIdleStop_raw (s : State) : (reportIdleStop s).raw = s.raw := rfl
@[simp] theorem reportIdleStop_opState (s : State) : (reportIdleStop s).opState = s.opState := rfl
@[simp] theorem reportIdleStop_tocnt (s : State) : (reportIdleStop s).tocnt = s.tocnt := rfl
@[simp] theorem reportIdleStop_waitcnt (s : State) : (reportIdleStop s).waitcnt = s.waitcnt := rfl
@[simp] theorem reportIdleStop_nackcnt (s : State) : (reportIdleStop s).nackcnt = s.nackcnt := rfl
@[simp] theorem reportIdleStop_txhead (s : State) : (reportIdleStop s).txhead = s.txhead := rfl
@[simp] theorem reportIdleStop_buf (s : State) : (reportIdleStop s).buf = s.buf := rfl
@[simp] theorem reportIdleStop_seqkind (s : State) : (reportIdleStop s).seqkind = s.seqkind := rfl
@[simp] theorem reportIdleStop_waiting (s : State) : (reportIdleStop s).waiting = s.waiting := rfl
@[simp] theorem reportIdleStop_rdata (s : State) : (reportIdleStop s).rdata = s.rdata := rfl
@[simp] theorem reportIdleStop_host (s : State) : (reportIdleStop s).host = s.host := rfl
@[simp] theorem reportIdleStop_hostDelay (s : State) : (reportIdleStop s).hostDelay = s.hostDelay := rfl
@[simp] theorem reportIdleStop_turns (s : State) : (reportIdleStop s).turns = s.turns := rfl
@[simp] theorem reportIdleStop_taken (s : State) : (reportIdleStop s).taken = s.taken := rfl

/-! ### rejectSequence -/

@[simp] theorem rejectSequence_busy (s : State) : (rejectSequence s).busy = s.busy := rfl
@[simp] theorem rejectSequence_done (s : State) : (rejectSequence s).done = true := rfl
@[simp] theorem rejectSequence_ovr (s : State) : (rejectSequence s).ovr = s.ovr := rfl
@[simp] theorem rejectSequence_valid (s : State) : (rejectSequence s).valid = s.valid := rfl
@[simp] theorem rejectSequence_phase (s : State) : (rejectSequence s).phase = s.phase := rfl
@[simp] theorem rejectSequence_upc (s : State) : (rejectSequence s).upc = s.upc := rfl
@[simp] theorem rejectSequence_status (s : State) : (rejectSequence s).status = .illegal := rfl
@[simp] theorem rejectSequence_data (s : State) : (rejectSequence s).data = s.data := rfl
@[simp] theorem rejectSequence_div (s : State) : (rejectSequence s).div = s.div := rfl
@[simp] theorem rejectSequence_busyRetries (s : State) : (rejectSequence s).busyRetries = s.busyRetries := rfl
@[simp] theorem rejectSequence_nackRetries (s : State) : (rejectSequence s).nackRetries = s.nackRetries := rfl
@[simp] theorem rejectSequence_timeoutMs (s : State) : (rejectSequence s).timeoutMs = s.timeoutMs := rfl
@[simp] theorem rejectSequence_err (s : State) : (rejectSequence s).err = .rejected := rfl
@[simp] theorem rejectSequence_attempts (s : State) : (rejectSequence s).attempts = s.attempts := rfl
@[simp] theorem rejectSequence_sstat (s : State) : (rejectSequence s).sstat = s.sstat := rfl
@[simp] theorem rejectSequence_raw (s : State) : (rejectSequence s).raw = s.raw := rfl
@[simp] theorem rejectSequence_opState (s : State) : (rejectSequence s).opState = s.opState := rfl
@[simp] theorem rejectSequence_tocnt (s : State) : (rejectSequence s).tocnt = s.tocnt := rfl
@[simp] theorem rejectSequence_waitcnt (s : State) : (rejectSequence s).waitcnt = s.waitcnt := rfl
@[simp] theorem rejectSequence_nackcnt (s : State) : (rejectSequence s).nackcnt = s.nackcnt := rfl
@[simp] theorem rejectSequence_txhead (s : State) : (rejectSequence s).txhead = s.txhead := rfl
@[simp] theorem rejectSequence_buf (s : State) : (rejectSequence s).buf = s.buf := rfl
@[simp] theorem rejectSequence_seqkind (s : State) : (rejectSequence s).seqkind = s.seqkind := rfl
@[simp] theorem rejectSequence_waiting (s : State) : (rejectSequence s).waiting = s.waiting := rfl
@[simp] theorem rejectSequence_rdata (s : State) : (rejectSequence s).rdata = s.rdata := rfl
@[simp] theorem rejectSequence_host (s : State) : (rejectSequence s).host = s.host := rfl
@[simp] theorem rejectSequence_hostDelay (s : State) : (rejectSequence s).hostDelay = s.hostDelay := rfl
@[simp] theorem rejectSequence_turns (s : State) : (rejectSequence s).turns = s.turns := rfl
@[simp] theorem rejectSequence_taken (s : State) : (rejectSequence s).taken = s.taken := rfl

/-! ### acceptSequence -/

@[simp] theorem acceptSequence_busy (k : SeqKind) (s : State) : (acceptSequence k s).busy = true := rfl
@[simp] theorem acceptSequence_done (k : SeqKind) (s : State) : (acceptSequence k s).done = false := rfl
@[simp] theorem acceptSequence_ovr (k : SeqKind) (s : State) : (acceptSequence k s).ovr = s.ovr := rfl
@[simp] theorem acceptSequence_valid (k : SeqKind) (s : State) : (acceptSequence k s).valid = if k = .measure then false else s.valid :=
  rfl
@[simp] theorem acceptSequence_phase (k : SeqKind) (s : State) : (acceptSequence k s).phase = s.phase := rfl
@[simp] theorem acceptSequence_upc (k : SeqKind) (s : State) : (acceptSequence k s).upc = k.entry := rfl
@[simp] theorem acceptSequence_status (k : SeqKind) (s : State) : (acceptSequence k s).status = s.status := rfl
@[simp] theorem acceptSequence_data (k : SeqKind) (s : State) : (acceptSequence k s).data = s.data := rfl
@[simp] theorem acceptSequence_div (k : SeqKind) (s : State) : (acceptSequence k s).div = s.div := rfl
@[simp] theorem acceptSequence_busyRetries (k : SeqKind) (s : State) : (acceptSequence k s).busyRetries = s.busyRetries :=
  rfl
@[simp] theorem acceptSequence_nackRetries (k : SeqKind) (s : State) : (acceptSequence k s).nackRetries = s.nackRetries :=
  rfl
@[simp] theorem acceptSequence_timeoutMs (k : SeqKind) (s : State) : (acceptSequence k s).timeoutMs = s.timeoutMs :=
  rfl
@[simp] theorem acceptSequence_err (k : SeqKind) (s : State) : (acceptSequence k s).err = .ok := rfl
@[simp] theorem acceptSequence_attempts (k : SeqKind) (s : State) : (acceptSequence k s).attempts = if k = .measure then 0#9 else s.attempts :=
  rfl
@[simp] theorem acceptSequence_sstat (k : SeqKind) (s : State) : (acceptSequence k s).sstat = s.sstat := rfl
@[simp] theorem acceptSequence_raw (k : SeqKind) (s : State) : (acceptSequence k s).raw = s.raw := rfl
@[simp] theorem acceptSequence_opState (k : SeqKind) (s : State) : (acceptSequence k s).opState = s.opState := rfl
@[simp] theorem acceptSequence_tocnt (k : SeqKind) (s : State) : (acceptSequence k s).tocnt = s.tocnt := rfl
@[simp] theorem acceptSequence_waitcnt (k : SeqKind) (s : State) : (acceptSequence k s).waitcnt = s.waitcnt := rfl
@[simp] theorem acceptSequence_nackcnt (k : SeqKind) (s : State) : (acceptSequence k s).nackcnt = 0#4 := rfl
@[simp] theorem acceptSequence_txhead (k : SeqKind) (s : State) : (acceptSequence k s).txhead = s.txhead := rfl
@[simp] theorem acceptSequence_buf (k : SeqKind) (s : State) : (acceptSequence k s).buf = s.buf := rfl
@[simp] theorem acceptSequence_seqkind (k : SeqKind) (s : State) : (acceptSequence k s).seqkind = k := rfl
@[simp] theorem acceptSequence_waiting (k : SeqKind) (s : State) : (acceptSequence k s).waiting = s.waiting := rfl
@[simp] theorem acceptSequence_rdata (k : SeqKind) (s : State) : (acceptSequence k s).rdata = s.rdata := rfl
@[simp] theorem acceptSequence_host (k : SeqKind) (s : State) : (acceptSequence k s).host = s.host := rfl
@[simp] theorem acceptSequence_hostDelay (k : SeqKind) (s : State) : (acceptSequence k s).hostDelay = s.hostDelay :=
  rfl
@[simp] theorem acceptSequence_turns (k : SeqKind) (s : State) : (acceptSequence k s).turns = s.turns := rfl
@[simp] theorem acceptSequence_taken (k : SeqKind) (s : State) : (acceptSequence k s).taken = s.taken := rfl

/-! ### endHostPrimitive -/

@[simp] theorem endHostPrimitive_busy (s : State) : (endHostPrimitive s).busy = false := rfl
@[simp] theorem endHostPrimitive_done (s : State) : (endHostPrimitive s).done = true := rfl
@[simp] theorem endHostPrimitive_ovr (s : State) : (endHostPrimitive s).ovr = s.ovr := rfl
@[simp] theorem endHostPrimitive_valid (s : State) : (endHostPrimitive s).valid = s.valid := rfl
@[simp] theorem endHostPrimitive_phase (s : State) : (endHostPrimitive s).phase = s.phase := rfl
@[simp] theorem endHostPrimitive_upc (s : State) : (endHostPrimitive s).upc = s.upc := rfl
@[simp] theorem endHostPrimitive_status (s : State) : (endHostPrimitive s).status = s.status := rfl
@[simp] theorem endHostPrimitive_data (s : State) : (endHostPrimitive s).data = s.data := rfl
@[simp] theorem endHostPrimitive_div (s : State) : (endHostPrimitive s).div = s.div := rfl
@[simp] theorem endHostPrimitive_busyRetries (s : State) : (endHostPrimitive s).busyRetries = s.busyRetries := rfl
@[simp] theorem endHostPrimitive_nackRetries (s : State) : (endHostPrimitive s).nackRetries = s.nackRetries := rfl
@[simp] theorem endHostPrimitive_timeoutMs (s : State) : (endHostPrimitive s).timeoutMs = s.timeoutMs := rfl
@[simp] theorem endHostPrimitive_err (s : State) : (endHostPrimitive s).err = s.err := rfl
@[simp] theorem endHostPrimitive_attempts (s : State) : (endHostPrimitive s).attempts = s.attempts := rfl
@[simp] theorem endHostPrimitive_sstat (s : State) : (endHostPrimitive s).sstat = s.sstat := rfl
@[simp] theorem endHostPrimitive_raw (s : State) : (endHostPrimitive s).raw = s.raw := rfl
@[simp] theorem endHostPrimitive_opState (s : State) : (endHostPrimitive s).opState = .idle := rfl
@[simp] theorem endHostPrimitive_tocnt (s : State) : (endHostPrimitive s).tocnt = s.tocnt := rfl
@[simp] theorem endHostPrimitive_waitcnt (s : State) : (endHostPrimitive s).waitcnt = s.waitcnt := rfl
@[simp] theorem endHostPrimitive_nackcnt (s : State) : (endHostPrimitive s).nackcnt = s.nackcnt := rfl
@[simp] theorem endHostPrimitive_txhead (s : State) : (endHostPrimitive s).txhead = s.txhead := rfl
@[simp] theorem endHostPrimitive_buf (s : State) : (endHostPrimitive s).buf = s.buf := rfl
@[simp] theorem endHostPrimitive_seqkind (s : State) : (endHostPrimitive s).seqkind = s.seqkind := rfl
@[simp] theorem endHostPrimitive_waiting (s : State) : (endHostPrimitive s).waiting = s.waiting := rfl
@[simp] theorem endHostPrimitive_rdata (s : State) : (endHostPrimitive s).rdata = s.rdata := rfl
@[simp] theorem endHostPrimitive_host (s : State) : (endHostPrimitive s).host = s.host := rfl
@[simp] theorem endHostPrimitive_hostDelay (s : State) : (endHostPrimitive s).hostDelay = s.hostDelay := rfl
@[simp] theorem endHostPrimitive_turns (s : State) : (endHostPrimitive s).turns = s.turns := rfl
@[simp] theorem endHostPrimitive_taken (s : State) : (endHostPrimitive s).taken = s.taken := rfl

/-! ### issue -/

@[simp] theorem issue_busy (p : Prim) (s : State) : (issue p s).busy = s.busy := rfl
@[simp] theorem issue_done (p : Prim) (s : State) : (issue p s).done = s.done := rfl
@[simp] theorem issue_ovr (p : Prim) (s : State) : (issue p s).ovr = s.ovr := rfl
@[simp] theorem issue_valid (p : Prim) (s : State) : (issue p s).valid = s.valid := rfl
@[simp] theorem issue_phase (p : Prim) (s : State) : (issue p s).phase = s.phase := rfl
@[simp] theorem issue_upc (p : Prim) (s : State) : (issue p s).upc = s.upc := rfl
@[simp] theorem issue_status (p : Prim) (s : State) : (issue p s).status = s.status := rfl
@[simp] theorem issue_data (p : Prim) (s : State) : (issue p s).data = s.data := rfl
@[simp] theorem issue_div (p : Prim) (s : State) : (issue p s).div = s.div := rfl
@[simp] theorem issue_busyRetries (p : Prim) (s : State) : (issue p s).busyRetries = s.busyRetries := rfl
@[simp] theorem issue_nackRetries (p : Prim) (s : State) : (issue p s).nackRetries = s.nackRetries := rfl
@[simp] theorem issue_timeoutMs (p : Prim) (s : State) : (issue p s).timeoutMs = s.timeoutMs := rfl
@[simp] theorem issue_err (p : Prim) (s : State) : (issue p s).err = s.err := rfl
@[simp] theorem issue_attempts (p : Prim) (s : State) : (issue p s).attempts = s.attempts := rfl
@[simp] theorem issue_sstat (p : Prim) (s : State) : (issue p s).sstat = s.sstat := rfl
@[simp] theorem issue_raw (p : Prim) (s : State) : (issue p s).raw = s.raw := rfl
@[simp] theorem issue_opState (p : Prim) (s : State) : (issue p s).opState = .inFlight p .seq := rfl
@[simp] theorem issue_tocnt (p : Prim) (s : State) : (issue p s).tocnt = timeoutLoad s := rfl
@[simp] theorem issue_waitcnt (p : Prim) (s : State) : (issue p s).waitcnt = s.waitcnt := rfl
@[simp] theorem issue_nackcnt (p : Prim) (s : State) : (issue p s).nackcnt = s.nackcnt := rfl
@[simp] theorem issue_txhead (p : Prim) (s : State) : (issue p s).txhead = s.txhead := rfl
@[simp] theorem issue_buf (p : Prim) (s : State) : (issue p s).buf = s.buf := rfl
@[simp] theorem issue_seqkind (p : Prim) (s : State) : (issue p s).seqkind = s.seqkind := rfl
@[simp] theorem issue_waiting (p : Prim) (s : State) : (issue p s).waiting = s.waiting := rfl
@[simp] theorem issue_rdata (p : Prim) (s : State) : (issue p s).rdata = s.rdata := rfl
@[simp] theorem issue_host (p : Prim) (s : State) : (issue p s).host = s.host := rfl
@[simp] theorem issue_hostDelay (p : Prim) (s : State) : (issue p s).hostDelay = s.hostDelay := rfl
@[simp] theorem issue_turns (p : Prim) (s : State) : (issue p s).turns = s.turns := rfl
@[simp] theorem issue_taken (p : Prim) (s : State) : (issue p s).taken = s.taken := rfl

/-! ### goto -/

@[simp] theorem goto_busy (r : Row) (s : State) : (goto r s).busy = s.busy := rfl
@[simp] theorem goto_done (r : Row) (s : State) : (goto r s).done = s.done := rfl
@[simp] theorem goto_ovr (r : Row) (s : State) : (goto r s).ovr = s.ovr := rfl
@[simp] theorem goto_valid (r : Row) (s : State) : (goto r s).valid = s.valid := rfl
@[simp] theorem goto_phase (r : Row) (s : State) : (goto r s).phase = s.phase := rfl
@[simp] theorem goto_upc (r : Row) (s : State) : (goto r s).upc = r := rfl
@[simp] theorem goto_status (r : Row) (s : State) : (goto r s).status = s.status := rfl
@[simp] theorem goto_data (r : Row) (s : State) : (goto r s).data = s.data := rfl
@[simp] theorem goto_div (r : Row) (s : State) : (goto r s).div = s.div := rfl
@[simp] theorem goto_busyRetries (r : Row) (s : State) : (goto r s).busyRetries = s.busyRetries := rfl
@[simp] theorem goto_nackRetries (r : Row) (s : State) : (goto r s).nackRetries = s.nackRetries := rfl
@[simp] theorem goto_timeoutMs (r : Row) (s : State) : (goto r s).timeoutMs = s.timeoutMs := rfl
@[simp] theorem goto_err (r : Row) (s : State) : (goto r s).err = s.err := rfl
@[simp] theorem goto_attempts (r : Row) (s : State) : (goto r s).attempts = s.attempts := rfl
@[simp] theorem goto_sstat (r : Row) (s : State) : (goto r s).sstat = s.sstat := rfl
@[simp] theorem goto_raw (r : Row) (s : State) : (goto r s).raw = s.raw := rfl
@[simp] theorem goto_opState (r : Row) (s : State) : (goto r s).opState = s.opState := rfl
@[simp] theorem goto_tocnt (r : Row) (s : State) : (goto r s).tocnt = s.tocnt := rfl
@[simp] theorem goto_waitcnt (r : Row) (s : State) : (goto r s).waitcnt = s.waitcnt := rfl
@[simp] theorem goto_nackcnt (r : Row) (s : State) : (goto r s).nackcnt = s.nackcnt := rfl
@[simp] theorem goto_txhead (r : Row) (s : State) : (goto r s).txhead = s.txhead := rfl
@[simp] theorem goto_buf (r : Row) (s : State) : (goto r s).buf = s.buf := rfl
@[simp] theorem goto_seqkind (r : Row) (s : State) : (goto r s).seqkind = s.seqkind := rfl
@[simp] theorem goto_waiting (r : Row) (s : State) : (goto r s).waiting = s.waiting := rfl
@[simp] theorem goto_rdata (r : Row) (s : State) : (goto r s).rdata = s.rdata := rfl
@[simp] theorem goto_host (r : Row) (s : State) : (goto r s).host = s.host := rfl
@[simp] theorem goto_hostDelay (r : Row) (s : State) : (goto r s).hostDelay = s.hostDelay := rfl
@[simp] theorem goto_turns (r : Row) (s : State) : (goto r s).turns = s.turns := rfl
@[simp] theorem goto_taken (r : Row) (s : State) : (goto r s).taken = s.taken := rfl

/-! ### setErr -/

@[simp] theorem setErr_busy (k : ErrKind) (s : State) : (setErr k s).busy = s.busy := by unfold setErr; split <;> rfl
@[simp] theorem setErr_done (k : ErrKind) (s : State) : (setErr k s).done = s.done := by unfold setErr; split <;> rfl
@[simp] theorem setErr_ovr (k : ErrKind) (s : State) : (setErr k s).ovr = s.ovr := by unfold setErr; split <;> rfl
@[simp] theorem setErr_valid (k : ErrKind) (s : State) : (setErr k s).valid = s.valid :=
  by unfold setErr; split <;> rfl
@[simp] theorem setErr_phase (k : ErrKind) (s : State) : (setErr k s).phase = s.phase :=
  by unfold setErr; split <;> rfl
@[simp] theorem setErr_upc (k : ErrKind) (s : State) : (setErr k s).upc = s.upc := by unfold setErr; split <;> rfl
@[simp] theorem setErr_status (k : ErrKind) (s : State) : (setErr k s).status = s.status :=
  by unfold setErr; split <;> rfl
@[simp] theorem setErr_data (k : ErrKind) (s : State) : (setErr k s).data = s.data := by unfold setErr; split <;> rfl
@[simp] theorem setErr_div (k : ErrKind) (s : State) : (setErr k s).div = s.div := by unfold setErr; split <;> rfl
@[simp] theorem setErr_busyRetries (k : ErrKind) (s : State) : (setErr k s).busyRetries = s.busyRetries :=
  by unfold setErr; split <;> rfl
@[simp] theorem setErr_nackRetries (k : ErrKind) (s : State) : (setErr k s).nackRetries = s.nackRetries :=
  by unfold setErr; split <;> rfl
@[simp] theorem setErr_timeoutMs (k : ErrKind) (s : State) : (setErr k s).timeoutMs = s.timeoutMs :=
  by unfold setErr; split <;> rfl
@[simp] theorem setErr_err (k : ErrKind) (s : State) : (setErr k s).err = if s.err = .ok then k else s.err :=
  by unfold setErr; split <;> simp_all
@[simp] theorem setErr_attempts (k : ErrKind) (s : State) : (setErr k s).attempts = s.attempts :=
  by unfold setErr; split <;> rfl
@[simp] theorem setErr_sstat (k : ErrKind) (s : State) : (setErr k s).sstat = s.sstat :=
  by unfold setErr; split <;> rfl
@[simp] theorem setErr_raw (k : ErrKind) (s : State) : (setErr k s).raw = s.raw := by unfold setErr; split <;> rfl
@[simp] theorem setErr_opState (k : ErrKind) (s : State) : (setErr k s).opState = s.opState :=
  by unfold setErr; split <;> rfl
@[simp] theorem setErr_tocnt (k : ErrKind) (s : State) : (setErr k s).tocnt = s.tocnt :=
  by unfold setErr; split <;> rfl
@[simp] theorem setErr_waitcnt (k : ErrKind) (s : State) : (setErr k s).waitcnt = s.waitcnt :=
  by unfold setErr; split <;> rfl
@[simp] theorem setErr_nackcnt (k : ErrKind) (s : State) : (setErr k s).nackcnt = s.nackcnt :=
  by unfold setErr; split <;> rfl
@[simp] theorem setErr_txhead (k : ErrKind) (s : State) : (setErr k s).txhead = s.txhead :=
  by unfold setErr; split <;> rfl
@[simp] theorem setErr_buf (k : ErrKind) (s : State) : (setErr k s).buf = s.buf := by unfold setErr; split <;> rfl
@[simp] theorem setErr_seqkind (k : ErrKind) (s : State) : (setErr k s).seqkind = s.seqkind :=
  by unfold setErr; split <;> rfl
@[simp] theorem setErr_waiting (k : ErrKind) (s : State) : (setErr k s).waiting = s.waiting :=
  by unfold setErr; split <;> rfl
@[simp] theorem setErr_rdata (k : ErrKind) (s : State) : (setErr k s).rdata = s.rdata :=
  by unfold setErr; split <;> rfl
@[simp] theorem setErr_host (k : ErrKind) (s : State) : (setErr k s).host = s.host := by unfold setErr; split <;> rfl
@[simp] theorem setErr_hostDelay (k : ErrKind) (s : State) : (setErr k s).hostDelay = s.hostDelay :=
  by unfold setErr; split <;> rfl
@[simp] theorem setErr_turns (k : ErrKind) (s : State) : (setErr k s).turns = s.turns :=
  by unfold setErr; split <;> rfl
@[simp] theorem setErr_taken (k : ErrKind) (s : State) : (setErr k s).taken = s.taken :=
  by unfold setErr; split <;> rfl

/-! ### finish -/

@[simp] theorem finish_busy (s : State) : (finish s).busy = false := rfl
@[simp] theorem finish_done (s : State) : (finish s).done = true := rfl
@[simp] theorem finish_ovr (s : State) : (finish s).ovr = s.ovr := rfl
@[simp] theorem finish_valid (s : State) : (finish s).valid = if s.seqkind = .measure ∧ s.err = .ok then true else s.valid :=
  rfl
@[simp] theorem finish_phase (s : State) : (finish s).phase = s.phase := rfl
@[simp] theorem finish_upc (s : State) : (finish s).upc = 63#6 := rfl
@[simp] theorem finish_status (s : State) : (finish s).status = s.status := rfl
@[simp] theorem finish_data (s : State) : (finish s).data = s.data := rfl
@[simp] theorem finish_div (s : State) : (finish s).div = s.div := rfl
@[simp] theorem finish_busyRetries (s : State) : (finish s).busyRetries = s.busyRetries := rfl
@[simp] theorem finish_nackRetries (s : State) : (finish s).nackRetries = s.nackRetries := rfl
@[simp] theorem finish_timeoutMs (s : State) : (finish s).timeoutMs = s.timeoutMs := rfl
@[simp] theorem finish_err (s : State) : (finish s).err = s.err := rfl
@[simp] theorem finish_attempts (s : State) : (finish s).attempts = s.attempts := rfl
@[simp] theorem finish_sstat (s : State) : (finish s).sstat = s.sstat := rfl
@[simp] theorem finish_raw (s : State) : (finish s).raw = s.raw := rfl
@[simp] theorem finish_opState (s : State) : (finish s).opState = s.opState := rfl
@[simp] theorem finish_tocnt (s : State) : (finish s).tocnt = s.tocnt := rfl
@[simp] theorem finish_waitcnt (s : State) : (finish s).waitcnt = s.waitcnt := rfl
@[simp] theorem finish_nackcnt (s : State) : (finish s).nackcnt = s.nackcnt := rfl
@[simp] theorem finish_txhead (s : State) : (finish s).txhead = s.txhead := rfl
@[simp] theorem finish_buf (s : State) : (finish s).buf = s.buf := rfl
@[simp] theorem finish_seqkind (s : State) : (finish s).seqkind = .none := rfl
@[simp] theorem finish_waiting (s : State) : (finish s).waiting = s.waiting := rfl
@[simp] theorem finish_rdata (s : State) : (finish s).rdata = s.rdata := rfl
@[simp] theorem finish_host (s : State) : (finish s).host = s.host := rfl
@[simp] theorem finish_hostDelay (s : State) : (finish s).hostDelay = s.hostDelay := rfl
@[simp] theorem finish_turns (s : State) : (finish s).turns = s.turns := rfl
@[simp] theorem finish_taken (s : State) : (finish s).taken = s.taken := rfl

/-! ### countTimeout -/

@[simp] theorem countTimeout_busy (s : State) : (countTimeout s).busy = s.busy := rfl
@[simp] theorem countTimeout_done (s : State) : (countTimeout s).done = s.done := rfl
@[simp] theorem countTimeout_ovr (s : State) : (countTimeout s).ovr = s.ovr := rfl
@[simp] theorem countTimeout_valid (s : State) : (countTimeout s).valid = s.valid := rfl
@[simp] theorem countTimeout_phase (s : State) : (countTimeout s).phase = s.phase := rfl
@[simp] theorem countTimeout_upc (s : State) : (countTimeout s).upc = s.upc := rfl
@[simp] theorem countTimeout_status (s : State) : (countTimeout s).status = s.status := rfl
@[simp] theorem countTimeout_data (s : State) : (countTimeout s).data = s.data := rfl
@[simp] theorem countTimeout_div (s : State) : (countTimeout s).div = s.div := rfl
@[simp] theorem countTimeout_busyRetries (s : State) : (countTimeout s).busyRetries = s.busyRetries := rfl
@[simp] theorem countTimeout_nackRetries (s : State) : (countTimeout s).nackRetries = s.nackRetries := rfl
@[simp] theorem countTimeout_timeoutMs (s : State) : (countTimeout s).timeoutMs = s.timeoutMs := rfl
@[simp] theorem countTimeout_err (s : State) : (countTimeout s).err = s.err := rfl
@[simp] theorem countTimeout_attempts (s : State) : (countTimeout s).attempts = s.attempts := rfl
@[simp] theorem countTimeout_sstat (s : State) : (countTimeout s).sstat = s.sstat := rfl
@[simp] theorem countTimeout_raw (s : State) : (countTimeout s).raw = s.raw := rfl
@[simp] theorem countTimeout_opState (s : State) : (countTimeout s).opState = s.opState := rfl
@[simp] theorem countTimeout_tocnt (s : State) : (countTimeout s).tocnt = if s.tocnt = 0#32 then 0#32 else s.tocnt - 1#32 :=
  rfl
@[simp] theorem countTimeout_waitcnt (s : State) : (countTimeout s).waitcnt = s.waitcnt := rfl
@[simp] theorem countTimeout_nackcnt (s : State) : (countTimeout s).nackcnt = s.nackcnt := rfl
@[simp] theorem countTimeout_txhead (s : State) : (countTimeout s).txhead = s.txhead := rfl
@[simp] theorem countTimeout_buf (s : State) : (countTimeout s).buf = s.buf := rfl
@[simp] theorem countTimeout_seqkind (s : State) : (countTimeout s).seqkind = s.seqkind := rfl
@[simp] theorem countTimeout_waiting (s : State) : (countTimeout s).waiting = s.waiting := rfl
@[simp] theorem countTimeout_rdata (s : State) : (countTimeout s).rdata = s.rdata := rfl
@[simp] theorem countTimeout_host (s : State) : (countTimeout s).host = s.host := rfl
@[simp] theorem countTimeout_hostDelay (s : State) : (countTimeout s).hostDelay = s.hostDelay := rfl
@[simp] theorem countTimeout_turns (s : State) : (countTimeout s).turns = s.turns := rfl
@[simp] theorem countTimeout_taken (s : State) : (countTimeout s).taken = s.taken := rfl

/-! ### stallCore -/

@[simp] theorem stallCore_busy (s : State) : (stallCore s).busy = s.busy := rfl
@[simp] theorem stallCore_done (s : State) : (stallCore s).done = s.done := rfl
@[simp] theorem stallCore_ovr (s : State) : (stallCore s).ovr = s.ovr := rfl
@[simp] theorem stallCore_valid (s : State) : (stallCore s).valid = s.valid := rfl
@[simp] theorem stallCore_phase (s : State) : (stallCore s).phase = s.phase := rfl
@[simp] theorem stallCore_upc (s : State) : (stallCore s).upc = s.upc := rfl
@[simp] theorem stallCore_status (s : State) : (stallCore s).status = s.status := rfl
@[simp] theorem stallCore_data (s : State) : (stallCore s).data = s.data := rfl
@[simp] theorem stallCore_div (s : State) : (stallCore s).div = s.div := rfl
@[simp] theorem stallCore_busyRetries (s : State) : (stallCore s).busyRetries = s.busyRetries := rfl
@[simp] theorem stallCore_nackRetries (s : State) : (stallCore s).nackRetries = s.nackRetries := rfl
@[simp] theorem stallCore_timeoutMs (s : State) : (stallCore s).timeoutMs = s.timeoutMs := rfl
@[simp] theorem stallCore_err (s : State) : (stallCore s).err = s.err := rfl
@[simp] theorem stallCore_attempts (s : State) : (stallCore s).attempts = s.attempts := rfl
@[simp] theorem stallCore_sstat (s : State) : (stallCore s).sstat = s.sstat := rfl
@[simp] theorem stallCore_raw (s : State) : (stallCore s).raw = s.raw := rfl
@[simp] theorem stallCore_opState (s : State) : (stallCore s).opState = .stalled := rfl
@[simp] theorem stallCore_tocnt (s : State) : (stallCore s).tocnt = s.tocnt := rfl
@[simp] theorem stallCore_waitcnt (s : State) : (stallCore s).waitcnt = s.waitcnt := rfl
@[simp] theorem stallCore_nackcnt (s : State) : (stallCore s).nackcnt = s.nackcnt := rfl
@[simp] theorem stallCore_txhead (s : State) : (stallCore s).txhead = s.txhead := rfl
@[simp] theorem stallCore_buf (s : State) : (stallCore s).buf = s.buf := rfl
@[simp] theorem stallCore_seqkind (s : State) : (stallCore s).seqkind = s.seqkind := rfl
@[simp] theorem stallCore_waiting (s : State) : (stallCore s).waiting = s.waiting := rfl
@[simp] theorem stallCore_rdata (s : State) : (stallCore s).rdata = s.rdata := rfl
@[simp] theorem stallCore_host (s : State) : (stallCore s).host = s.host := rfl
@[simp] theorem stallCore_hostDelay (s : State) : (stallCore s).hostDelay = s.hostDelay := rfl
@[simp] theorem stallCore_turns (s : State) : (stallCore s).turns = s.turns := rfl
@[simp] theorem stallCore_taken (s : State) : (stallCore s).taken = s.taken := rfl

/-! ### countDelay -/

@[simp] theorem countDelay_busy (s : State) : (countDelay s).busy = s.busy := rfl
@[simp] theorem countDelay_done (s : State) : (countDelay s).done = s.done := rfl
@[simp] theorem countDelay_ovr (s : State) : (countDelay s).ovr = s.ovr := rfl
@[simp] theorem countDelay_valid (s : State) : (countDelay s).valid = s.valid := rfl
@[simp] theorem countDelay_phase (s : State) : (countDelay s).phase = s.phase := rfl
@[simp] theorem countDelay_upc (s : State) : (countDelay s).upc = s.upc := rfl
@[simp] theorem countDelay_status (s : State) : (countDelay s).status = s.status := rfl
@[simp] theorem countDelay_data (s : State) : (countDelay s).data = s.data := rfl
@[simp] theorem countDelay_div (s : State) : (countDelay s).div = s.div := rfl
@[simp] theorem countDelay_busyRetries (s : State) : (countDelay s).busyRetries = s.busyRetries := rfl
@[simp] theorem countDelay_nackRetries (s : State) : (countDelay s).nackRetries = s.nackRetries := rfl
@[simp] theorem countDelay_timeoutMs (s : State) : (countDelay s).timeoutMs = s.timeoutMs := rfl
@[simp] theorem countDelay_err (s : State) : (countDelay s).err = s.err := rfl
@[simp] theorem countDelay_attempts (s : State) : (countDelay s).attempts = s.attempts := rfl
@[simp] theorem countDelay_sstat (s : State) : (countDelay s).sstat = s.sstat := rfl
@[simp] theorem countDelay_raw (s : State) : (countDelay s).raw = s.raw := rfl
@[simp] theorem countDelay_opState (s : State) : (countDelay s).opState = s.opState := rfl
@[simp] theorem countDelay_tocnt (s : State) : (countDelay s).tocnt = s.tocnt := rfl
@[simp] theorem countDelay_waitcnt (s : State) : (countDelay s).waitcnt = s.waitcnt := rfl
@[simp] theorem countDelay_nackcnt (s : State) : (countDelay s).nackcnt = s.nackcnt := rfl
@[simp] theorem countDelay_txhead (s : State) : (countDelay s).txhead = s.txhead := rfl
@[simp] theorem countDelay_buf (s : State) : (countDelay s).buf = s.buf := rfl
@[simp] theorem countDelay_seqkind (s : State) : (countDelay s).seqkind = s.seqkind := rfl
@[simp] theorem countDelay_waiting (s : State) : (countDelay s).waiting = s.waiting := rfl
@[simp] theorem countDelay_rdata (s : State) : (countDelay s).rdata = s.rdata := rfl
@[simp] theorem countDelay_host (s : State) : (countDelay s).host = s.host := rfl
@[simp] theorem countDelay_hostDelay (s : State) : (countDelay s).hostDelay = s.hostDelay - 1 := rfl
@[simp] theorem countDelay_turns (s : State) : (countDelay s).turns = s.turns := rfl
@[simp] theorem countDelay_taken (s : State) : (countDelay s).taken = s.taken := rfl

/-! ### hostRead -/

@[simp] theorem hostRead_busy (off : Offset) (s : State) : (hostRead off s).busy = s.busy := rfl
@[simp] theorem hostRead_done (off : Offset) (s : State) : (hostRead off s).done = s.done := rfl
@[simp] theorem hostRead_ovr (off : Offset) (s : State) : (hostRead off s).ovr = s.ovr := rfl
@[simp] theorem hostRead_valid (off : Offset) (s : State) : (hostRead off s).valid = s.valid := rfl
@[simp] theorem hostRead_phase (off : Offset) (s : State) : (hostRead off s).phase = s.phase := rfl
@[simp] theorem hostRead_upc (off : Offset) (s : State) : (hostRead off s).upc = s.upc := rfl
@[simp] theorem hostRead_status (off : Offset) (s : State) : (hostRead off s).status = s.status := rfl
@[simp] theorem hostRead_data (off : Offset) (s : State) : (hostRead off s).data = s.data := rfl
@[simp] theorem hostRead_div (off : Offset) (s : State) : (hostRead off s).div = s.div := rfl
@[simp] theorem hostRead_busyRetries (off : Offset) (s : State) : (hostRead off s).busyRetries = s.busyRetries := rfl
@[simp] theorem hostRead_nackRetries (off : Offset) (s : State) : (hostRead off s).nackRetries = s.nackRetries := rfl
@[simp] theorem hostRead_timeoutMs (off : Offset) (s : State) : (hostRead off s).timeoutMs = s.timeoutMs := rfl
@[simp] theorem hostRead_err (off : Offset) (s : State) : (hostRead off s).err = s.err := rfl
@[simp] theorem hostRead_attempts (off : Offset) (s : State) : (hostRead off s).attempts = s.attempts := rfl
@[simp] theorem hostRead_sstat (off : Offset) (s : State) : (hostRead off s).sstat = s.sstat := rfl
@[simp] theorem hostRead_raw (off : Offset) (s : State) : (hostRead off s).raw = s.raw := rfl
@[simp] theorem hostRead_opState (off : Offset) (s : State) : (hostRead off s).opState = s.opState := rfl
@[simp] theorem hostRead_tocnt (off : Offset) (s : State) : (hostRead off s).tocnt = s.tocnt := rfl
@[simp] theorem hostRead_waitcnt (off : Offset) (s : State) : (hostRead off s).waitcnt = s.waitcnt := rfl
@[simp] theorem hostRead_nackcnt (off : Offset) (s : State) : (hostRead off s).nackcnt = s.nackcnt := rfl
@[simp] theorem hostRead_txhead (off : Offset) (s : State) : (hostRead off s).txhead = s.txhead := rfl
@[simp] theorem hostRead_buf (off : Offset) (s : State) : (hostRead off s).buf = s.buf := rfl
@[simp] theorem hostRead_seqkind (off : Offset) (s : State) : (hostRead off s).seqkind = s.seqkind := rfl
@[simp] theorem hostRead_waiting (off : Offset) (s : State) : (hostRead off s).waiting = s.waiting := rfl
@[simp] theorem hostRead_rdata (off : Offset) (s : State) : (hostRead off s).rdata = memRead s off := rfl
@[simp] theorem hostRead_host (off : Offset) (s : State) : (hostRead off s).host = s.host := rfl
@[simp] theorem hostRead_hostDelay (off : Offset) (s : State) : (hostRead off s).hostDelay = s.hostDelay := rfl
@[simp] theorem hostRead_turns (off : Offset) (s : State) : (hostRead off s).turns = s.turns := rfl
@[simp] theorem hostRead_taken (off : Offset) (s : State) : (hostRead off s).taken = s.taken := rfl

/-- The next row is the one after `upc`. -/
@[simp] theorem nextRow_eq (s : State) : nextRow s = goto (s.upc + 1#6) s := rfl

/-- An error path records the error, if it is the first, and goes to ABORT. -/
@[simp] theorem abortWith_eq (k : ErrKind) (s : State) : abortWith k s = goto 62#6 (setErr k s) := rfl

end Sys2Proof.Machine
end

