-- ==== Sys2Proof/Laws/Ops.lean ====
section
/-! SUPPORT. For each shared operation, once, everything it can do: the later proofs cite these and do not unfold the
operations again. -/

namespace Sys2Proof.Machine

/-! ### Parameters and counter loads -/

theorem cyclesPerMs_pos : 0 < Config.cyclesPerMs := Nat.succ_pos _

theorem cyclesPerMs_le : Config.cyclesPerMs ≤ 16843009 := Config.cyclesPerMsLessOne.isLt

/-- R10's constraint: every load of a counter fits its 32 bits. -/
theorem load_fits {n : Nat} (hn : n ≤ 255) : n * Config.cyclesPerMs < 2 ^ 32 :=
  calc n * Config.cyclesPerMs ≤ 255 * 16843009 := Nat.mul_le_mul hn cyclesPerMs_le
    _ < 2 ^ 32 := by norm_num

theorem timeoutLoad_toNat (s : State) : (timeoutLoad s).toNat = s.timeoutMs.toNat * Config.cyclesPerMs := by
  have h : s.timeoutMs.toNat ≤ 255 := by have := s.timeoutMs.isLt; omega
  rw [timeoutLoad, BitVec.toNat_ofNat, Nat.mod_eq_of_lt (load_fits h)]

/-- The timeout counter is loaded with 0 exactly when the timeout is disabled (R171). -/
theorem timeoutLoad_eq_zero (s : State) : timeoutLoad s = 0#32 ↔ s.timeoutMs = 0#8 := by
  have h := timeoutLoad_toNat s
  have hc := cyclesPerMs_pos
  constructor
  · intro h0
    rw [h0] at h
    rcases Nat.mul_eq_zero.mp h.symm with h' | h'
    · exact BitVec.eq_of_toNat_eq h'
    · omega
  · intro h0
    apply BitVec.eq_of_toNat_eq
    rw [h, h0]
    simp

theorem waitLoad_toNat {n : Nat} (hn : n ≤ 255) : (waitLoad n).toNat = n * Config.cyclesPerMs := by
  rw [waitLoad, BitVec.toNat_ofNat, Nat.mod_eq_of_lt (load_fits hn)]

/-! ### Commands -/

/-- A primitive command is dropped, illegal, a STOP with no transaction, or accepted (R115). -/
theorem commandPrimitive_cases (p : Prim) (s : State) :
    (s.busy = true ∧ commandPrimitive p s = overrun s)
    ∨ (s.busy = false ∧ legal p s.phase = false ∧ commandPrimitive p s = reportIllegal s)
    ∨ (s.busy = false ∧ p = .stop ∧ s.phase = .idle ∧ commandPrimitive p s = reportIdleStop s)
    ∨ (s.busy = false ∧ legal p s.phase = true ∧ ¬ (p = .stop ∧ s.phase = .idle)
      ∧ commandPrimitive p s = acceptPrimitive p s) := by
  unfold commandPrimitive
  by_cases hb : s.busy = true
  · simp [hb]
  · by_cases hl : legal p s.phase = true
    · by_cases hs : p = .stop ∧ s.phase = .idle
      · obtain ⟨rfl, hp⟩ := hs
        simp only [Bool.not_eq_true] at hb
        simp [hb, hp, legal]
      · right; right; right
        simp only [Bool.not_eq_true] at hb
        simp only [hb, hl, hs]
        simp
    · simp [hb, hl]

/-- A reserved command is dropped or illegal (R114). -/
theorem commandReserved_cases (s : State) :
    (s.busy = true ∧ commandReserved s = overrun s) ∨ (s.busy = false ∧ commandReserved s = reportIllegal s) := by
  unfold commandReserved
  cases hb : s.busy <;> simp

/-- A sequence command is dropped, rejected or accepted (R115, R201). -/
theorem commandSequence_cases (k : SeqKind) (s : State) :
    (s.busy = true ∧ commandSequence k s = overrun s)
    ∨ (s.busy = false ∧ s.phase ≠ .idle ∧ commandSequence k s = rejectSequence s)
    ∨ (s.busy = false ∧ s.phase = .idle ∧ commandSequence k s = acceptSequence k s) := by
  unfold commandSequence
  cases hb : s.busy
  · by_cases hp : s.phase = .idle <;> simp [hp]
  · simp

/-- The ways a command changes the state: the cases a to g of R115, each with the commands it is for. -/
inductive CommandStep (i : Instr) (s : State) : State → Prop
  | nop (hi : i = .nop) : CommandStep i s s
  | dropped (hb : s.busy = true) (hi : i ≠ .nop) : CommandStep i s (overrun s)
  | illegal (hb : s.busy = false) (hi : i ≠ .nop)
      (hr : isReserved i = true ∨ ∃ p, primitiveOf i = some p ∧ legal p s.phase = false) :
      CommandStep i s (reportIllegal s)
  | idleStop (hb : s.busy = false) (hi : i = .stop) (hp : s.phase = .idle) : CommandStep i s (reportIdleStop s)
  | accepted (p : Prim) (hb : s.busy = false) (hi : i ≠ .nop) (hi' : primitiveOf i = some p)
      (hl : legal p s.phase = true) (hs : ¬ (p = .stop ∧ s.phase = .idle)) : CommandStep i s (acceptPrimitive p s)
  | rejected (k : SeqKind) (hb : s.busy = false) (hi : i ≠ .nop) (hi' : sequenceOf i = some k) (hp : s.phase ≠ .idle) :
      CommandStep i s (rejectSequence s)
  | sequence (k : SeqKind) (hk : k ≠ .none) (hb : s.busy = false) (hi : i ≠ .nop) (hi' : sequenceOf i = some k)
      (hp : s.phase = .idle) : CommandStep i s (acceptSequence k s)

theorem commandPrimitive_step {i : Instr} {p : Prim} (h : primitiveOf i = some p) (s : State) :
    CommandStep i s (commandPrimitive p s) := by
  have hi : i ≠ .nop := by rintro rfl; cases h
  rcases commandPrimitive_cases p s with ⟨hb, e⟩ | ⟨hb, hl, e⟩ | ⟨hb, hp, hph, e⟩ | ⟨hb, hl, hs, e⟩ <;> rw [e]
  · exact .dropped hb hi
  · exact .illegal hb hi (Or.inr ⟨p, h, hl⟩)
  · refine .idleStop hb ?_ hph
    subst hp
    cases i <;> cases h
    rfl
  · exact .accepted p hb hi h hl hs

theorem commandSequence_step {i : Instr} {k : SeqKind} (h : sequenceOf i = some k) (s : State) :
    CommandStep i s (commandSequence k s) := by
  have hi : i ≠ .nop := by rintro rfl; cases h
  have hk : k ≠ .none := by rintro rfl; cases i <;> cases h
  rcases commandSequence_cases k s with ⟨hb, e⟩ | ⟨hb, hp, e⟩ | ⟨hb, hp, e⟩ <;> rw [e]
  · exact .dropped hb hi
  · exact .rejected k hb hi h hp
  · exact .sequence k hk hb hi h hp

theorem commandReserved_step {i : Instr} (h : isReserved i = true) (s : State) :
    CommandStep i s (commandReserved s) := by
  have hi : i ≠ .nop := by rintro rfl; cases h
  rcases commandReserved_cases s with ⟨hb, e⟩ | ⟨hb, e⟩ <;> rw [e]
  · exact .dropped hb hi
  · exact .illegal hb hi (Or.inl h)

/-- A command always answers a next state, and changes the state in one of the ways of R115. -/
theorem exec_step (i : Instr) (s : State) : ∃ t, exec i s = .next t ∧ CommandStep i s t := by
  cases i
  case nop => exact ⟨s, rfl, .nop rfl⟩
  case start | addr | write | read | stop => exact ⟨_, rfl, commandPrimitive_step rfl s⟩
  case seqStatus | seqInit | seqMeasure => exact ⟨_, rfl, commandSequence_step rfl s⟩
  all_goals exact ⟨_, rfl, commandReserved_step rfl s⟩

/-! ### Register writes -/

/-- A guarded write is dropped or done (R89). -/
theorem unlessBusy_cases (s s' : State) :
    (s.busy = true ∧ unlessBusy s s' = overrun s) ∨ (s.busy = false ∧ unlessBusy s s' = s') := by
  unfold unlessBusy
  cases hb : s.busy <;> simp

/-- A host write always answers a next state: it is a command, a register write, or nothing (R84, R86). -/
theorem memWrite_cases (off : Offset) (v : Word) (s : State) :
    (regAt off = some .cmd ∧ memWrite off v s = exec (decode v) s)
    ∨ (∃ r, regAt off = some r ∧ r ≠ .cmd ∧ memWrite off v s = .next (writeReg v r s))
    ∨ (regAt off = none ∧ memWrite off v s = .next s) := by
  unfold memWrite
  cases h : regAt off with
  | none => simp
  | some r => cases r <;> simp

/-! ### Pseudo-instructions -/

/-- A pseudo-instruction is refused for its divisor, refused for its address, or expanded (R121, R123). -/
theorem expand_cases (hz : Nat) (c : HostCall) :
    (c.divisorInRange hz = false ∧ c.addressInRange = true ∧ expand hz c = .error .divisorOutOfRange)
    ∨ (c.divisorInRange hz = true ∧ c.addressInRange = false ∧ expand hz c = .error .addressAbove127)
    ∨ (c.divisorInRange hz = true ∧ c.addressInRange = true ∧ ∃ ls, expand hz c = .ok ls) := by
  cases c with
  | i2cInit f =>
    by_cases h : 16 ≤ hz / f ∧ (hz / f - 16) / 2 ≤ 255 <;>
      simp [HostCall.divisorInRange, HostCall.addressInRange, expand, initDivisor, h]
  | i2cAddrW a | i2cAddrR a =>
    by_cases h : a ≤ 127 <;> simp [HostCall.divisorInRange, HostCall.addressInRange, expand, h]
  | _ => exact Or.inr (Or.inr ⟨rfl, rfl, _, rfl⟩)

/-- The host's turn at a pseudo-instruction: the line is replaced by its expansion, or refused (R120 to R127). -/
theorem hostTurn_call {s : State} {c : HostCall} {rest : List HostLine} (hd : s.hostDelay = 0)
    (hh : s.host = .call c :: rest) :
    hostTurn s = match expand Config.fCoreHz c with
      | .ok ls => .next { s with host := ls ++ rest }
      | .error r => .refused r := by
  unfold hostTurn
  rw [if_neg (not_not.mpr hd)]
  cases h : expand Config.fCoreHz c <;> simp only [hh, h]

/-! ### Completion -/

/-- `Complete` changes STATUS, PHASE and DATA only (R158). -/
theorem complete_frame (p : Prim) (o : BusOutcome) (s : State) :
    ∃ st ph d, complete p o s = { s with status := st, phase := ph, data := d } := by
  unfold complete
  split
  · exact ⟨_, _, _, rfl⟩
  · exact ⟨s.status, s.phase, s.data, rfl⟩

/-- A row of the completion table is applied as it stands (R158). -/
theorem complete_of_row {p : Prim} {o : BusOutcome} {s : State} {c : Completion}
    (h : completionRow p s.phase (dirRead s.data) o = some c) :
    complete p o s = { s with status := c.status, phase := c.phase, data := c.received.getD s.data } := by
  simp [complete, h]

/-- The bus's answer is one that R157 admits, and no timeout. -/
theorem busAnswer_some {p : Prim} {s : State} {answer : Option BusOutcome} {o : BusOutcome}
    (h : busAnswer p s answer = some o) :
    answer = some o ∧ o ≠ .timeout ∧ admits Config.singleMaster p s.phase (s.tocnt ≠ 0#32) o = true := by
  unfold busAnswer at h
  split at h
  · cases h
  · rename_i o' hne
    split at h
    · rename_i ha
      cases h
      exact ⟨rfl, fun e => hne (by rw [e]), ha⟩
    · cases h
  · cases h

/-- An admitted answer that is no timeout is the bus's answer. -/
theorem busAnswer_of_admits {p : Prim} {s : State} {o : BusOutcome} (ht : o ≠ .timeout)
    (ha : admits Config.singleMaster p s.phase (s.tocnt ≠ 0#32) o = true) :
    busAnswer p s (some o) = some o := by
  unfold busAnswer
  cases o <;> simp_all

/-! ### One clock cycle -/

/-- A cycle with a primitive in flight: it stalls, completes with the bus's answer, times out, or goes on. -/
theorem inFlightCycle_cases (p : Prim) (origin : Origin) (answer : Option BusOutcome) (s : State) :
    (busAnswer p s answer = some .stall ∧ inFlightCycle p origin answer s = stallCore (countTimeout s))
    ∨ (∃ o, o ≠ .stall ∧ busAnswer p s answer = some o
      ∧ inFlightCycle p origin answer s = completeInFlight p origin o (countTimeout s))
    ∨ (busAnswer p s answer = none ∧ s.tocnt = 1#32
      ∧ inFlightCycle p origin answer s = completeInFlight p origin .timeout (countTimeout s))
    ∨ (busAnswer p s answer = none ∧ s.tocnt ≠ 1#32 ∧ inFlightCycle p origin answer s = countTimeout s) := by
  unfold inFlightCycle
  split
  · rename_i h
    simp [h]
  · rename_i o hne h
    exact Or.inr (Or.inl ⟨o, fun e => hne e, h, rfl⟩)
  · rename_i h
    by_cases ht : s.tocnt = 1#32 <;> simp [ht, h]

/-- The core's step of a cycle. -/
theorem coreCycle_cases (answer : Option BusOutcome) (s : State) :
    (∃ p origin, s.opState = .inFlight p origin ∧ coreCycle answer s = inFlightCycle p origin answer s)
    ∨ (s.opState = .stalled ∧ coreCycle answer s = s)
    ∨ (s.opState = .idle ∧ s.waiting = true ∧ coreCycle answer s = waitCycle s)
    ∨ (s.opState = .idle ∧ s.waiting = false ∧ coreCycle answer s = sequencerStep s) := by
  unfold coreCycle
  cases h : s.opState <;> cases hw : s.waiting <;> simp

/-- One cycle of a wait: the counter goes down, or the wait ends (R210). -/
theorem waitCycle_cases (s : State) :
    (s.waitcnt = 1#32 ∧ waitCycle s = goto (s.upc + 1#6) { s with waitcnt := 0#32, waiting := false })
    ∨ (s.waitcnt ≠ 1#32 ∧ waitCycle s = { s with waitcnt := s.waitcnt - 1#32 }) := by
  unfold waitCycle
  by_cases h : s.waitcnt = 1#32
  · left
    simp [h, nextRow]
  · right
    have : s.waitcnt - 1#32 ≠ 0#32 := fun e => h (by bv_omega)
    simp [h, this]

/-! ### Steps -/

/-- A settled turn is taken from the list. -/
theorem takeTurn_cons {s : State} {t : Turn} {ts : List Turn} (h : s.turns = t :: ts) :
    takeTurn s = (t, { s with turns := ts, taken := s.taken + 1 }) := by
  unfold takeTurn
  split
  · rename_i t' ts' h'
    cases h'.symm.trans h
    rfl
  · rename_i h'
    cases h'.symm.trans h

/-- Taking a turn changes the model's own fields only. -/
theorem takeTurn_frame (s : State) :
    ∃ ts, (takeTurn s).2 = { s with turns := ts, taken := s.taken + 1 } := by
  unfold takeTurn
  split
  · exact ⟨_, rfl⟩
  · exact ⟨s.turns, rfl⟩

/-- A step is a host turn, a clock cycle or a reset cycle. -/
theorem step_cases (s : State) :
    ((takeTurn s).1 = .host ∧ step s = hostTurn (takeTurn s).2)
    ∨ (∃ a, (takeTurn s).1 = .clock a ∧ step s = .next (clockCycle a (takeTurn s).2))
    ∨ ((takeTurn s).1 = .rst ∧ step s = .next (resetCycle (takeTurn s).2)) := by
  unfold step
  cases h : (takeTurn s).1 <;> simp [runTurn]

/-- A host turn: nothing, a write, a read, a poll, a delay, or the expansion of a pseudo-instruction. -/
theorem hostTurn_next {s t : State} (h : hostTurn s = .next t) :
    t = s
    ∨ (∃ off v rest, s.hostDelay = 0 ∧ s.host = .wr off v :: rest ∧ memWrite off v { s with host := rest } = .next t)
    ∨ (∃ rd ls d, t = { s with rdata := rd, host := ls, hostDelay := d }) := by
  unfold hostTurn at h
  split at h
  · cases h; exact Or.inl rfl
  · rename_i hd
    split at h
    · cases h; exact Or.inl rfl
    · rename_i off v rest hh
      exact Or.inr (Or.inl ⟨off, v, rest, not_not.mp hd, hh, h⟩)
    · rename_i off rest hh
      cases h
      exact Or.inr (Or.inr ⟨_, rest, s.hostDelay, rfl⟩)
    · rename_i off mask value rest hh
      cases h
      unfold hostPoll hostRead
      split
      · exact Or.inr (Or.inr ⟨_, rest, s.hostDelay, rfl⟩)
      · exact Or.inr (Or.inr ⟨_, s.host, s.hostDelay, rfl⟩)
    · rename_i ms rest hh
      cases h
      exact Or.inr (Or.inr ⟨s.rdata, rest, _, rfl⟩)
    · rename_i c rest hh
      split at h
      · cases h
        exact Or.inr (Or.inr ⟨s.rdata, _, s.hostDelay, rfl⟩)
      · cases h

end Sys2Proof.Machine
end

