-- ==== Sys2Proof/Laws/Core.lean ====
section
/-! SUPPORT. What the core can do in one clock cycle, said once: the ways a micro-op, a status check and a completion
change the state. The later proofs take these cases apart and unfold neither the sequencer nor the cycle. -/

namespace Sys2Proof.Machine

/-! ### The sequencer -/

/-- The ways a micro-op changes the state (R205 to R220). -/
inductive MicroStep (m : MicroOp) (s : State) : State → Prop
  | start (head : Bool) (hm : m = .start head) :
      MicroStep m s (issue .start { s with txhead := if head then s.upc else s.txhead })
  | addr (a : Byte) (hm : m = .addr a) : MicroStep m s (issue .addr { s with data := a })
  | write (b : Byte) (hm : m = .write b) : MicroStep m s (issue .write { s with data := b })
  | read (k : Fin 6) (ack : Bool) (hm : m = .read k ack) : MicroStep m s (issue (.read ack) s)
  | stop (hm : m = .stop ∨ m = .retry ∨ m = .abort) (hp : s.phase ≠ .idle) : MicroStep m s (issue .stop s)
  | idleStop (hm : m = .stop) (hp : s.phase = .idle) : MicroStep m s { s with status := .idle, upc := s.upc + 1#6 }
  | wait (ms : Nat) (hm : m = .wait ms) : MicroStep m s { s with waitcnt := waitLoad ms, waiting := true }
  | setstat (hm : m = .setstat) : MicroStep m s { s with sstat := s.buf.b0, upc := s.upc + 1#6 }
  | commit (hm : m = .commit) :
      MicroStep m s { s with raw := s.buf, attempts := s.attempts + 1#9, upc := s.upc + 1#6 }
  | goto (r : Row) (hm : (m = .brcal r ∧ sensorCalibrated s.sstat = true)
      ∨ ((∃ r', m = .brcal r') ∧ sensorCalibrated s.sstat = false ∧ r = s.upc + 1#6)
      ∨ (m = .brbusy r ∧ sensorBusy s.raw.b0 = true ∧ s.attempts.toNat ≤ s.busyRetries.toNat)
      ∨ ((∃ r', m = .brbusy r') ∧ sensorBusy s.raw.b0 = false ∧ r = s.upc + 1#6)
      ∨ (m = .retry ∧ s.phase = .idle ∧ r = s.txhead)) : MicroStep m s { s with upc := r }
  | busy (r : Row) (hm : m = .brbusy r) (hb : sensorBusy s.raw.b0 = true)
      (ha : ¬ s.attempts.toNat ≤ s.busyRetries.toNat) : MicroStep m s (abortWith .busyTimeout s)
  | finish (hm : m = .endSeq ∨ (m = .abort ∧ s.phase = .idle)) : MicroStep m s (finish s)

/-- Every micro-op changes the state in one of the ways of `MicroStep` (R202). -/
theorem execMicro_step (m : MicroOp) (s : State) : MicroStep m s (execMicro m s) := by
  cases m with
  | start head => cases head <;> exact .start _ rfl
  | addr a => exact .addr a rfl
  | write b => exact .write b rfl
  | read k ack => exact .read k ack rfl
  | stop =>
    simp only [execMicro, microStop]
    split
    · exact .idleStop rfl ‹_›
    · exact .stop (Or.inl rfl) ‹_›
  | wait ms => exact .wait ms rfl
  | setstat => exact .setstat rfl
  | brcal t =>
    simp only [execMicro, microBrcal]
    split
    · exact .goto t (Or.inl ⟨rfl, ‹_›⟩)
    · exact .goto _ (Or.inr (Or.inl ⟨⟨t, rfl⟩, by simp_all, rfl⟩))
  | commit => exact .commit rfl
  | brbusy t =>
    simp only [execMicro, microBrbusy]
    split
    · split
      · exact .goto t (Or.inr (Or.inr (Or.inl ⟨rfl, ‹_›, ‹_›⟩)))
      · exact .busy t rfl ‹_› ‹_›
    · exact .goto _ (Or.inr (Or.inr (Or.inr (Or.inl ⟨⟨t, rfl⟩, by simp_all, rfl⟩))))
  | endSeq => exact .finish (Or.inl rfl)
  | retry =>
    simp only [execMicro, microRetry]
    split
    · exact .stop (Or.inr (Or.inl rfl)) ‹_›
    · exact .goto _ (Or.inr (Or.inr (Or.inr (Or.inr ⟨rfl, by simp_all, rfl⟩))))
  | abort =>
    simp only [execMicro, microAbort]
    split
    · exact .stop (Or.inr (Or.inr rfl)) ‹_›
    · exact .finish (Or.inr ⟨rfl, by simp_all⟩)

/-- The ways a status check changes the state (R204, R218 to R220). -/
inductive CheckStep (s : State) : State → Prop
  | next (hr : s.upc ≠ 61#6 ∧ s.upc ≠ 62#6) (b : Reading) : CheckStep s { s with buf := b, upc := s.upc + 1#6 }
  | restart (hr : s.upc ≠ 61#6 ∧ s.upc ≠ 62#6) (hs : s.status = .slawNack ∨ s.status = .slarNack)
      (hn : s.nackcnt.toNat < s.nackRetries.toNat) :
      CheckStep s { s with nackcnt := s.nackcnt + 1#4, upc := 61#6 }
  | abort (hr : s.upc ≠ 62#6) (e : ErrKind)
      (he : e = .addrNack ∨ e = .dataNack ∨ e = .arbLost ∨ e = .busTimeout) : CheckStep s (abortWith e s)
  | head (hr : s.upc = 61#6) (hs : s.status = .idle) : CheckStep s { s with upc := s.txhead }
  | done (hr : s.upc = 62#6) (hs : s.status ≠ .busTimeout) : CheckStep s (finish s)
  | doneLate (hr : s.upc = 62#6) (hs : s.status = .busTimeout) : CheckStep s (finish (setErr .busTimeout s))
  | stay : CheckStep s s

theorem rom_eq_retry {r : Row} : rom r = some .retry ↔ r = 61#6 := by
  revert r; decide

theorem rom_eq_abort {r : Row} : rom r = some .abort ↔ r = 62#6 := by
  revert r; decide

/-- A ROM row's check (R204). -/
theorem checkRow_step (m : MicroOp) (s : State) (hr : s.upc ≠ 61#6 ∧ s.upc ≠ 62#6) : CheckStep s (checkRow m s) := by
  unfold checkRow
  split
  · cases m with
    | read k ack => exact .next hr _
    | _ => exact .next hr s.buf
  · cases hs : s.status
    case slawNack | slarNack =>
      simp only [addressNack]
      split
      · exact .restart hr (by simp [hs]) ‹_›
      · exact .abort hr.2 _ (Or.inl rfl)
    case dataTxNack => exact .abort hr.2 _ (Or.inr (Or.inl rfl))
    case arbLost => exact .abort hr.2 _ (Or.inr (Or.inr (Or.inl rfl)))
    case busTimeout => exact .abort hr.2 _ (Or.inr (Or.inr (Or.inr rfl)))
    all_goals exact .stay

/-- Every status check changes the state in one of the ways of `CheckStep`. -/
theorem checkStatus_step (s : State) : CheckStep s (checkStatus s) := by
  unfold checkStatus
  split
  · rename_i h
    have hr := rom_eq_retry.mp h
    unfold checkRetry
    split
    · exact .head hr ‹_›
    · exact .abort (by rw [hr]; decide) _ (Or.inr (Or.inr (Or.inr rfl)))
  · rename_i h
    have hr := rom_eq_abort.mp h
    unfold checkAbort
    split
    · exact .doneLate hr ‹_›
    · exact .done hr ‹_›
  · rename_i m hm ha h
    refine checkRow_step m s ⟨fun e => ?_, fun e => ?_⟩
    · rw [rom_eq_retry.mpr e] at h
      exact hm (Option.some.inj h).symm
    · rw [rom_eq_abort.mpr e] at h
      exact ha (Option.some.inj h).symm
  · exact .stay

/-- What no status check changes. -/
theorem checkStep_frame {s t : State} (h : CheckStep s t) :
    t.phase = s.phase ∧ t.data = s.data ∧ t.ovr = s.ovr ∧ t.div = s.div ∧ t.busyRetries = s.busyRetries
    ∧ t.nackRetries = s.nackRetries ∧ t.timeoutMs = s.timeoutMs ∧ t.opState = s.opState ∧ t.sstat = s.sstat
    ∧ t.raw = s.raw ∧ t.status = s.status ∧ t.tocnt = s.tocnt ∧ t.waitcnt = s.waitcnt ∧ t.attempts = s.attempts
    ∧ t.waiting = s.waiting ∧ t.txhead = s.txhead := by
  cases h <;> simp [abortWith, setErr, goto, finish] <;> split <;> simp_all

/-- A status check leaves BUSY and DONE as they are, but for ABORT's, which finishes the sequence (R155, R220). -/
theorem checkStep_busy_done {s t : State} (h : CheckStep s t) (hr : s.upc ≠ 62#6) :
    t.busy = s.busy ∧ t.done = s.done := by
  cases h <;> simp_all [abortWith, setErr, goto]
  split <;> simp_all

/-- What no completion changes beside its three fields (R158). -/
theorem complete_keeps (p : Prim) (o : BusOutcome) (s : State) :
    (complete p o s).ovr = s.ovr ∧ (complete p o s).div = s.div ∧ (complete p o s).busyRetries = s.busyRetries
    ∧ (complete p o s).nackRetries = s.nackRetries ∧ (complete p o s).timeoutMs = s.timeoutMs
    ∧ (complete p o s).sstat = s.sstat ∧ (complete p o s).raw = s.raw ∧ (complete p o s).valid = s.valid
    ∧ (complete p o s).err = s.err ∧ (complete p o s).seqkind = s.seqkind ∧ (complete p o s).busy = s.busy
    ∧ (complete p o s).done = s.done ∧ (complete p o s).upc = s.upc ∧ (complete p o s).attempts = s.attempts
    ∧ (complete p o s).waiting = s.waiting ∧ (complete p o s).waitcnt = s.waitcnt
    ∧ (complete p o s).txhead = s.txhead ∧ (complete p o s).nackcnt = s.nackcnt ∧ (complete p o s).buf = s.buf
    ∧ (complete p o s).tocnt = s.tocnt ∧ (complete p o s).opState = s.opState := by
  obtain ⟨a, b, c, e⟩ := complete_frame p o s
  simp [e]

/-! ### The clock cycle -/

/-- The ways the core's step of one clock cycle changes the state (R51, R154, R155, R170 to R172, R202, R210). -/
inductive CoreStep (answer : Option BusOutcome) (s : State) : State → Prop
  | stalled (hs : s.opState = .stalled) : CoreStep answer s s
  | stall (p : Prim) (origin : Origin) (hs : s.opState = .inFlight p origin) (ht : s.tocnt = 0#32) :
      CoreStep answer s (stallCore (countTimeout s))
  | count (p : Prim) (origin : Origin) (hs : s.opState = .inFlight p origin) (ht : s.tocnt ≠ 1#32) :
      CoreStep answer s (countTimeout s)
  | host (p : Prim) (o : BusOutcome) (hs : s.opState = .inFlight p .host) (ho : o ≠ .stall)
      (ha : o = .timeout ∧ s.tocnt = 1#32
        ∨ answer = some o ∧ o ≠ .timeout ∧ admits Config.singleMaster p s.phase (s.tocnt ≠ 0#32) o = true) :
      CoreStep answer s (completeHost p o (countTimeout s))
  | seq (p : Prim) (o : BusOutcome) (t : State) (hs : s.opState = .inFlight p .seq) (ho : o ≠ .stall)
      (ha : o = .timeout ∧ s.tocnt = 1#32
        ∨ answer = some o ∧ o ≠ .timeout ∧ admits Config.singleMaster p s.phase (s.tocnt ≠ 0#32) o = true)
      (hc : CheckStep { complete p o (countTimeout s) with opState := .idle } t) : CoreStep answer s t
  | waited (hs : s.opState = .idle) (hw : s.waiting = true) (hc : s.waitcnt = 1#32) :
      CoreStep answer s { s with waitcnt := 0#32, waiting := false, upc := s.upc + 1#6 }
  | waits (hs : s.opState = .idle) (hw : s.waiting = true) (hc : s.waitcnt ≠ 1#32) :
      CoreStep answer s { s with waitcnt := s.waitcnt - 1#32 }
  | micro (m : MicroOp) (t : State) (hs : s.opState = .idle) (hw : s.waiting = false) (hm : rom s.upc = some m)
      (ht : MicroStep m s t) : CoreStep answer s t
  | none (hs : s.opState = .idle) (hw : s.waiting = false) (hm : rom s.upc = none) : CoreStep answer s s

/-- A stall is admitted only with the timeout disabled (R157, R171). -/
theorem admits_stall {single : Bool} {p : Prim} {ph : Phase} {armed : Bool} :
    admits single p ph armed .stall = !armed := by
  cases p <;> cases ph <;> rfl

/-- A completion by whoever issued the primitive. -/
theorem completeInFlight_step {answer : Option BusOutcome} {s : State} {p : Prim} {origin : Origin} {o : BusOutcome}
    (hs : s.opState = .inFlight p origin) (ho : o ≠ .stall)
    (ha : o = .timeout ∧ s.tocnt = 1#32
      ∨ answer = some o ∧ o ≠ .timeout ∧ admits Config.singleMaster p s.phase (s.tocnt ≠ 0#32) o = true) :
    CoreStep answer s (completeInFlight p origin o (countTimeout s)) := by
  cases origin with
  | host => exact .host p o hs ho ha
  | seq => exact .seq p o _ hs ho ha (checkStatus_step _)

/-- Every clock cycle changes the core in one of the ways of `CoreStep`. -/
theorem coreCycle_step (answer : Option BusOutcome) (s : State) : CoreStep answer s (coreCycle answer s) := by
  rcases coreCycle_cases answer s with ⟨p, origin, hs, e⟩ | ⟨hs, e⟩ | ⟨hs, hw, e⟩ | ⟨hs, hw, e⟩ <;> rw [e]
  · rcases inFlightCycle_cases p origin answer s with ⟨h, e⟩ | ⟨o, ho, h, e⟩ | ⟨_, ht, e⟩ | ⟨_, ht, e⟩ <;> rw [e]
    · obtain ⟨_, _, ha⟩ := busAnswer_some h
      rw [admits_stall] at ha
      exact .stall p origin hs (by simpa using ha)
    · exact completeInFlight_step hs ho (Or.inr (busAnswer_some h))
    · exact completeInFlight_step hs (by simp) (Or.inl ⟨rfl, ht⟩)
    · exact .count p origin hs ht
  · exact .stalled hs
  · rcases waitCycle_cases s with ⟨hc, e⟩ | ⟨hc, e⟩ <;> rw [e]
    · exact .waited hs hw hc
    · exact .waits hs hw hc
  · unfold sequencerStep
    split
    · exact .micro _ _ hs hw ‹_› (execMicro_step _ _)
    · exact .none hs hw ‹_›

/-! ### One turn -/

/-- A host write always answers a next state. -/
theorem memWrite_total (off : Offset) (v : Word) (s : State) : ∃ t, memWrite off v s = .next t := by
  rcases memWrite_cases off v s with ⟨_, e⟩ | ⟨r, _, _, e⟩ | ⟨_, e⟩
  · obtain ⟨t, e', _⟩ := exec_step (decode v) s
    exact ⟨t, e.trans e'⟩
  · exact ⟨_, e⟩
  · exact ⟨_, e⟩

/-- A settled clock turn. -/
theorem step_clock {s : State} {a : Option BusOutcome} {ts : List Turn} (h : s.turns = .clock a :: ts) :
    step s = .next (clockCycle a { s with turns := ts, taken := s.taken + 1 }) := by
  simp [step, takeTurn_cons h, runTurn]

/-- A settled clock turn in which the sequencer's step is enabled (R202). -/
theorem step_micro {s : State} {a : Option BusOutcome} {ts : List Turn} {m : MicroOp} (h : s.turns = .clock a :: ts)
    (ho : s.opState = .idle) (hw : s.waiting = false) (hm : rom s.upc = some m) :
    step s = .next (countDelay (execMicro m { s with turns := ts, taken := s.taken + 1 })) := by
  rw [step_clock h]
  simp [clockCycle, coreCycle, ho, hw, sequencerStep, hm]

/-- Everything a step that answers a next state can be: a reset cycle, a clock cycle, a host write, or a host turn that
does not reach the core. `s'` is the state with the turn taken. -/
theorem step_next_cases {s t : State} (h : step s = .next t) :
    ∃ ts s', s' = { s with turns := ts, taken := s.taken + 1 } ∧
      (((takeTurn s).1 = .rst ∧ t = resetCycle s')
      ∨ (∃ a u, (takeTurn s).1 = .clock a ∧ CoreStep a s' u ∧ t = countDelay u)
      ∨ (∃ off v rest, (takeTurn s).1 = .host ∧ s.hostDelay = 0 ∧ s.host = .wr off v :: rest
          ∧ memWrite off v { s' with host := rest } = .next t)
      ∨ ((takeTurn s).1 = .host ∧ ∃ rd ls d, t = { s' with rdata := rd, host := ls, hostDelay := d })) := by
  obtain ⟨ts, h2⟩ := takeTurn_frame s
  refine ⟨ts, _, rfl, ?_⟩
  rcases step_cases s with ⟨h1, e⟩ | ⟨a, h1, e⟩ | ⟨h1, e⟩
  · rw [e, h2] at h
    rcases hostTurn_next h with rfl | ⟨off, v, rest, h3, h4, h5⟩ | ⟨rd, ls, d, rfl⟩
    · exact Or.inr (Or.inr (Or.inr ⟨h1, s.rdata, s.host, s.hostDelay, rfl⟩))
    · exact Or.inr (Or.inr (Or.inl ⟨off, v, rest, h1, h3, h4, h5⟩))
    · exact Or.inr (Or.inr (Or.inr ⟨h1, _, _, _, rfl⟩))
  · rw [e, h2] at h
    cases h
    exact Or.inr (Or.inl ⟨a, _, h1, coreCycle_step _ _, rfl⟩)
  · rw [e, h2] at h
    cases h
    exact Or.inl ⟨h1, rfl⟩

/-- Everything a host write can do: a command, a register write, or nothing. -/
theorem memWrite_next {off : Offset} {v : Word} {s t : State} (h : memWrite off v s = .next t) :
    (regAt off = some .cmd ∧ CommandStep (decode v) s t)
    ∨ (∃ r, regAt off = some r ∧ r ≠ .cmd ∧ t = writeReg v r s)
    ∨ (regAt off = none ∧ t = s) := by
  rcases memWrite_cases off v s with ⟨h1, e⟩ | ⟨r, h1, h2, e⟩ | ⟨h1, e⟩
  · obtain ⟨u, e2, hs⟩ := exec_step (decode v) s
    rw [e, e2] at h
    cases h
    exact Or.inl ⟨h1, hs⟩
  · rw [e] at h
    cases h
    exact Or.inr (Or.inl ⟨r, h1, h2, rfl⟩)
  · rw [e] at h
    cases h
    exact Or.inr (Or.inr ⟨h1, rfl⟩)

end Sys2Proof.Machine
end

