-- ==== Sys2Proof/Laws/PerInstr.lean ====
section
/-! SUPPORT. Facts about each command as syntax, one lemma per constructor. -/

namespace Sys2Proof.Laws

/-- The encoding of a well-formed command decodes to it, and sets none of the ignored bits [31:5] (spec/30_encoding.md
R110). -/
def RoundTrip.Statement (i : Instr) : Prop :=
  i.wellFormed = true → decode (encode i) = i ∧ encode i &&& 0xFFFFFFE0#32 = 0#32

theorem RoundTrip.nop : RoundTrip.Statement .nop := fun _ => by decide
theorem RoundTrip.start : RoundTrip.Statement .start := fun _ => by decide
theorem RoundTrip.addr : RoundTrip.Statement .addr := fun _ => by decide
theorem RoundTrip.write : RoundTrip.Statement .write := fun _ => by decide
theorem RoundTrip.read (ack : Bool) : RoundTrip.Statement (.read ack) := fun _ => by cases ack <;> decide
theorem RoundTrip.stop : RoundTrip.Statement .stop := fun _ => by decide
theorem RoundTrip.reserved6 : RoundTrip.Statement .reserved6 := fun _ => by decide
theorem RoundTrip.reserved7 : RoundTrip.Statement .reserved7 := fun _ => by decide
theorem RoundTrip.seqStatus : RoundTrip.Statement .seqStatus := fun _ => by decide
theorem RoundTrip.seqInit : RoundTrip.Statement .seqInit := fun _ => by decide
theorem RoundTrip.seqMeasure : RoundTrip.Statement .seqMeasure := fun _ => by decide
theorem RoundTrip.reservedB : RoundTrip.Statement .reservedB := fun _ => by decide
theorem RoundTrip.reservedC : RoundTrip.Statement .reservedC := fun _ => by decide
theorem RoundTrip.reservedD : RoundTrip.Statement .reservedD := fun _ => by decide
theorem RoundTrip.reservedE : RoundTrip.Statement .reservedE := fun _ => by decide
theorem RoundTrip.reservedF : RoundTrip.Statement .reservedF := fun _ => by decide

end Sys2Proof.Laws
end

