-- ==== Sys2Proof/Tests/Slice0.lean ====
section
/-! SUPPORT. Tests. The expected results are the spec's own words, worked examples and tables, named beside each test.
Then, for every obligation with hypotheses, a concrete state and operands that meet them together. -/

namespace Sys2Proof.Tests

open Sys2Proof.Machine

/-! ## Decoding: the words of R112 and R118, bit by bit -/

theorem test_decode_nop : decode 0b00000000000000000000000000000000#32 = .nop := by decide
theorem test_decode_start : decode 0b00000000000000000000000000000001#32 = .start := by decide
theorem test_decode_addr : decode 0b00000000000000000000000000000010#32 = .addr := by decide
theorem test_decode_write : decode 0b00000000000000000000000000000011#32 = .write := by decide
theorem test_decode_read_nack : decode 0b00000000000000000000000000000100#32 = .read false := by decide
theorem test_decode_read_ack : decode 0b00000000000000000000000000010100#32 = .read true := by decide
theorem test_decode_stop : decode 0b00000000000000000000000000000101#32 = .stop := by decide
theorem test_decode_reserved6 : decode 0b00000000000000000000000000000110#32 = .reserved6 := by decide
theorem test_decode_reserved7 : decode 0b00000000000000000000000000000111#32 = .reserved7 := by decide
theorem test_decode_seqStatus : decode 0b00000000000000000000000000001000#32 = .seqStatus := by decide
theorem test_decode_seqInit : decode 0b00000000000000000000000000001001#32 = .seqInit := by decide
theorem test_decode_seqMeasure : decode 0b00000000000000000000000000001010#32 = .seqMeasure := by decide
theorem test_decode_reservedB : decode 0b00000000000000000000000000001011#32 = .reservedB := by decide
theorem test_decode_reservedC : decode 0b00000000000000000000000000001100#32 = .reservedC := by decide
theorem test_decode_reservedD : decode 0b00000000000000000000000000001101#32 = .reservedD := by decide
theorem test_decode_reservedE : decode 0b00000000000000000000000000001110#32 = .reservedE := by decide
theorem test_decode_reservedF : decode 0b00000000000000000000000000001111#32 = .reservedF := by decide

/-- Bits [31:5] are ignored, and ACK too but for READ (R110). -/
theorem test_decode_ignores_upper_bits :
    decode 0xFFFFFFE1#32 = .start ∧ decode 0xFFFFFFF1#32 = .start ∧ decode 0xFFFFFFE4#32 = .read false := by decide

/-- The byte lanes carry bits [7:0] first (R83). -/
theorem test_decode_lanes : decodeBytes [0x14, 0x00, 0x00, 0x00] = .ok (.read true)
    ∧ decodeBytes [0x00, 0x00, 0x00, 0x14] = .ok .nop := by decide

/-- Three bytes are no command word. -/
theorem test_decode_refuses_three_bytes : decodeBytes [0x01, 0x00, 0x00] = .error (.notOneWord 3) := by decide

theorem test_decode_table_word : decodeTableWord 32 0x04 = some (.read false) ∧ decodeTableWord 32 0x0F = some .reservedF := by
  decide

/-! ## Well-formedness -/

/-- An address above 127 is refused (R123). -/
theorem test_ill_formed_address : (HostCall.i2cAddrW 128).addressInRange = false
    ∧ (HostCall.i2cAddrR 128).addressInRange = false ∧ (HostCall.i2cAddrW 127).addressInRange = true := by decide

/-- At 16 MHz: 1000001 Hz gives F_CORE_HZ / f = 15 < 16, 30000 Hz gives the divisor 258 > 255, 100 kHz gives 72
(R121). -/
theorem test_ill_formed_divisor : (HostCall.i2cInit 1000001).divisorInRange 16000000 = false
    ∧ (HostCall.i2cInit 30000).divisorInRange 16000000 = false
    ∧ (HostCall.i2cInit 100000).divisorInRange 16000000 = true := by decide

/-- No command is ill-formed (R116). -/
theorem test_commands_are_well_formed : (Instr.read true).wellFormed = true ∧ Instr.reservedF.wellFormed = true := by
  decide

/-! ## Small states -/

/-- `p` in flight in phase `ph`. -/
def flying (p : Prim) (origin : Origin) (ph : Phase) : State :=
  { State.reset with busy := true, opState := .inFlight p origin, phase := ph, tocnt := 1#32 }

/-- A sequence at row `r`, the core's turn next. -/
def atRow (k : SeqKind) (r : Row) : State :=
  { State.reset with busy := true, seqkind := k, upc := r, turns := [.clock none] }

/-- The host about to write. -/
def hostWriting (off : Offset) (v : Word) (s : State) : State := { s with turns := [.host], host := [.wr off v] }

/-- The next state of an outcome that has one. -/
def nextOf (o : Host.Outcome State Fault Refusal) : State :=
  match o with
  | .next s => s
  | .fault _ | .refused _ => State.reset

/-- A reading of the examples of R213 and R224. -/
def exampleReading : Reading := { b0 := 0x1C#8, b1 := 0x19#8, b2 := 0x99#8, b3 := 0x9A#8, b4 := 0x99#8, b5 := 0x99#8 }

/-! ## The worked examples of the rules -/

/-- R160's example: CSR stays 0x00003F02. -/
theorem test_nop : (nextOf (exec .nop { State.reset with done := true })).done = true
    ∧ memRead (nextOf (exec .nop { State.reset with done := true })) 0x04#8 = 0x00003F02#32 := by decide

/-- R161: START from IDLE is accepted. -/
theorem test_start_accepted : (nextOf (exec .start State.reset)).opState = .inFlight .start .host
    ∧ (nextOf (exec .start State.reset)).busy = true := by decide

/-- R161's example: the bus answers OK. -/
theorem test_start_completes : memRead (coreCycle (some .ok) (flying .start .host .idle)) 0x08#8 = 0x08#32
    ∧ memRead (coreCycle (some .ok) (flying .start .host .idle)) 0x04#8 = 0x00003F12#32 := by decide

/-- R162: ADDR outside STARTED is illegal. -/
theorem test_addr_illegal_in_idle : memRead (nextOf (exec .addr State.reset)) 0x08#8 = 0x00#32
    ∧ (nextOf (exec .addr State.reset)).done = true := by decide

/-- R162's example: DATA = 0x70, ACK. -/
theorem test_addr_completes :
    (coreCycle (some .ack) { flying .addr .host .started with data := 0x70#8 }).status.code = 0x18#8
    ∧ (coreCycle (some .ack) { flying .addr .host .started with data := 0x70#8 }).phase = .tx := by decide

/-- R163's example: DATA = 0xAC, ACK. -/
theorem test_write_completes :
    (coreCycle (some .ack) { flying .write .host .tx with data := 0xAC#8 }).status.code = 0x28#8
    ∧ (coreCycle (some .ack) { flying .write .host .tx with data := 0xAC#8 }).data = 0xAC#8 := by decide

/-- R163: a data NACK leaves PHASE at TX. -/
theorem test_write_nacked : (coreCycle (some .nack) (flying .write .host .tx)).status.code = 0x30#8
    ∧ (coreCycle (some .nack) (flying .write .host .tx)).phase = .tx := by decide

/-- R164's example: READ.NACK, BYTE(0x99). -/
theorem test_read_nack_completes :
    (coreCycle (some (.byte 0x99#8)) (flying (.read false) .host .rx)).data = 0x99#8
    ∧ (coreCycle (some (.byte 0x99#8)) (flying (.read false) .host .rx)).status.code = 0x58#8
    ∧ (coreCycle (some (.byte 0x99#8)) (flying (.read false) .host .rx)).phase = .rxend := by decide

/-- R164: READ.ACK leaves PHASE at RX with 0x50. -/
theorem test_read_ack_completes :
    (coreCycle (some (.byte 0x99#8)) (flying (.read true) .host .rx)).status.code = 0x50#8
    ∧ (coreCycle (some (.byte 0x99#8)) (flying (.read true) .host .rx)).phase = .rx := by decide

/-- R165's example: PHASE = RXEND, OK. -/
theorem test_stop_completes : (coreCycle (some .ok) (flying .stop .host .rxend)).status.code = 0xF8#8
    ∧ (coreCycle (some .ok) (flying .stop .host .rxend)).phase = .idle
    ∧ (coreCycle (some .ok) (flying .stop .host .rxend)).busy = false := by decide

/-- R165: STOP in IDLE completes at once. -/
theorem test_stop_in_idle : (nextOf (exec .stop { State.reset with status := .illegal })).status.code = 0xF8#8
    ∧ (nextOf (exec .stop State.reset)).busy = false ∧ (nextOf (exec .stop State.reset)).done = true := by decide

/-- R114: a reserved command is ILLEGAL, or dropped while busy. -/
theorem test_reserved : (nextOf (exec .reserved6 State.reset)).status.code = 0x00#8
    ∧ (nextOf (exec .reservedF { State.reset with busy := true })).ovr = true
    ∧ (nextOf (exec .reservedF { State.reset with busy := true })).status.code = 0xF8#8 := by decide

/-- R201: the entry row of SEQ_STATUS. -/
theorem test_seqStatus_accepted : (nextOf (exec .seqStatus State.reset)).upc = 0#6
    ∧ (nextOf (exec .seqStatus State.reset)).seqkind = .status := by decide

/-- R201: the entry row of SEQ_INIT; ATTEMPTS and VALID stay. -/
theorem test_seqInit_accepted : (nextOf (exec .seqInit { State.reset with valid := true, attempts := 3#9 })).upc = 9#6
    ∧ (nextOf (exec .seqInit { State.reset with valid := true, attempts := 3#9 })).valid = true
    ∧ (nextOf (exec .seqInit { State.reset with valid := true, attempts := 3#9 })).attempts = 3#9 := by decide

/-- R201: the entry row of SEQ_MEASURE; ATTEMPTS and VALID are cleared. -/
theorem test_seqMeasure_accepted :
    (nextOf (exec .seqMeasure { State.reset with valid := true, attempts := 3#9 })).upc = 27#6
    ∧ (nextOf (exec .seqMeasure { State.reset with valid := true, attempts := 3#9 })).valid = false
    ∧ (nextOf (exec .seqMeasure { State.reset with valid := true, attempts := 3#9 })).attempts = 0#9 := by decide

/-- R201: rejected while a host transaction is open. -/
theorem test_seqMeasure_rejected : (nextOf (exec .seqMeasure { State.reset with phase := .tx })).err.code = 6#4
    ∧ (nextOf (exec .seqMeasure { State.reset with phase := .tx })).busy = false := by decide

/-! ## The worked examples of the micro-ops -/

/-- R205's example: row 27. -/
theorem test_micro_start : (sequencerStep (atRow .measure 27#6)).txhead = 27#6
    ∧ (sequencerStep (atRow .measure 27#6)).opState = .inFlight .start .seq
    ∧ (completeSeq .start .ok (atRow .measure 27#6)).upc = 28#6 := by decide

/-- R206's and R207's examples: rows 1 and 29. -/
theorem test_micro_addr_write : (sequencerStep (atRow .status 1#6)).data = 0x70#8
    ∧ (sequencerStep (atRow .measure 29#6)).data = 0xAC#8 := by decide

/-- R208's example: row 41. -/
theorem test_micro_read : (completeSeq (.read false) (.byte 0x99#8) { atRow .measure 41#6 with phase := .rx }).buf.b5
      = 0x99#8
    ∧ (completeSeq (.read false) (.byte 0x99#8) { atRow .measure 41#6 with phase := .rx }).upc = 42#6 := by decide

/-- R211's and R212's examples. -/
theorem test_micro_setstat_brcal :
    (sequencerStep { atRow .init 17#6 with buf := { Reading.zero with b0 := 0x18#8 } }).sstat = 0x18#8
    ∧ (sequencerStep { atRow .init 18#6 with sstat := 0x18#8 }).upc = 26#6
    ∧ (sequencerStep { atRow .init 18#6 with sstat := 0x10#8 }).upc = 19#6 := by decide

/-- R213's and R214's examples. -/
theorem test_micro_commit_brbusy : (sequencerStep { atRow .measure 43#6 with buf := exampleReading }).raw = exampleReading
    ∧ (sequencerStep (atRow .measure 43#6)).attempts = 1#9
    ∧ (sequencerStep { atRow .measure 44#6 with
        raw := { Reading.zero with b0 := 0x98#8 }, attempts := 1#9 }).upc = 33#6 := by decide

/-- R218's example, and R220's: the STOP of RETRY and of ABORT completes. -/
theorem test_retry_abort :
    (completeSeq .stop .ok { atRow .measure 61#6 with phase := .rxend, txhead := 34#6 }).upc = 34#6
    ∧ (completeSeq .stop .ok { atRow .measure 62#6 with phase := .tx, err := .dataNack }).err.code = 5#4
    ∧ (completeSeq .stop .ok { atRow .measure 62#6 with phase := .tx, err := .dataNack }).status.code = 0xF8#8
    ∧ (completeSeq .stop .ok { atRow .measure 62#6 with phase := .tx, err := .dataNack }).seqkind = .none := by decide

/-- R170: the counter's end completes the primitive with 0xE0; R172: the bus wins the tie. -/
theorem test_timeout : (coreCycle none (flying .write .host .tx)).status.code = 0xE0#8
    ∧ (coreCycle none (flying .write .host .tx)).phase = .idle
    ∧ (coreCycle (some .ack) (flying .write .host .tx)).status.code = 0x28#8 := by decide

/-! ## The decoder: R224's example, and the ends of R252 and R253 -/

theorem test_decoder_example : memRead { State.reset with raw := exampleReading } 0x38#8 = 0x19999#32
    ∧ memRead { State.reset with raw := exampleReading } 0x3C#8 = 0xA9999#32
    ∧ memRead { State.reset with raw := exampleReading } 0x40#8 = 9#32
    ∧ memRead { State.reset with raw := exampleReading } 0x44#8 = 82#32 := by decide

theorem test_decoder_ends : humidityPercent 0xFFFFF#20 = 99 ∧ humidityPercent 0#20 = 0
    ∧ temperatureCelsius 0xFFFFF#20 = 149 ∧ temperatureCelsius 0#20 = -50
    ∧ temperatureCelsius 262144#20 = 0 ∧ temperatureCelsius 262143#20 = -1 := by decide

/-! ## The host -/

/-- `withFetchWord` runs the word in the very next step. -/
theorem test_withFetchWord : (nextOf (step (State.reset.withFetchWord 32 0x09))).upc = 9#6 := by decide

/-- R89: a dropped write; R86: an unmapped one. -/
theorem test_dropped_write :
    (nextOf (step (hostWriting 0x0C#8 0x55#32 { State.reset with busy := true }))).ovr = true
    ∧ (nextOf (step (hostWriting 0x0C#8 0x55#32 { State.reset with busy := true }))).data = 0x00#8
    ∧ (nextOf (step (hostWriting 0x48#8 0x55#32 { State.reset with busy := true }))).ovr = false := by decide

/-- R43: CFG's three fields. -/
theorem test_cfg_fields : memRead (nextOf (memWrite 0x14#8 0xFFFFFFFF#32 State.reset)) 0x14#8 = 0x00FF0FFF#32 := by
  decide

/-- R121 at 16 MHz and 100 kHz: the divisor 72. -/
theorem test_i2c_init : expand 16000000 (.i2cInit 100000) = .ok [.wr 0x10#8 72#32] := by decide

/-- U1: one caller's primitive between another's START and STOP. -/
theorem test_interleaving_is_refused :
    serialisedFrom 16000000 none [(0, .call .i2cStart), (1, .wr 0x00#8 0x03#32)] = false
    ∧ serialisedFrom 16000000 none [(0, .call .i2cStart), (0, .call .i2cStop), (1, .call .i2cStart)] = true := by decide

/-! ## Witnesses: for every obligation with hypotheses, what meets them -/

theorem witness_DecodeAndEncodeAgree : (Instr.read true).wellFormed = true := by decide

theorem witness_CommandDispatchTakesFirstCase :
    (4 : Nat) = (BitVec.extractLsb' 0 4 0x14#32).toNat ∧ true = (0x14#32).getLsbD 4 := by decide

theorem witness_StepRunsTheDecodedCommand :
    (hostWriting 0x03#8 0x14#32 State.reset).turns = [.host] ∧ (hostWriting 0x03#8 0x14#32 State.reset).hostDelay = 0
    ∧ (hostWriting 0x03#8 0x14#32 State.reset).host = [.wr 0x03#8 0x14#32] ∧ regAt 0x03#8 = some .cmd
    ∧ (decode 0x14#32).wellFormed = true := by decide

theorem witness_NopHasNoEffect : BitVec.extractLsb' 0 4 0xFFFFFFF0#32 = 0x0#4 := by decide

/-- Each of START, ADDR, WRITE, READ with either ACK, and STOP. -/
theorem witness_LegalPrimitiveIsAccepted :
    ∀ x ∈ [(Instr.start, Prim.start, Phase.idle), (.start, .start, .rxend), (.addr, .addr, .started),
        (.write, .write, .tx), (.read true, .read true, .rx), (.read false, .read false, .rx), (.stop, .stop, .rx)],
      primitiveOf x.1 = some x.2.1 ∧ ({ State.reset with phase := x.2.2 } : State).busy = false
      ∧ legal x.2.1 x.2.2 = true ∧ ¬ (x.2.1 = .stop ∧ x.2.2 = .idle) := by decide

theorem witness_IllegalPrimitiveIsReported :
    (State.reset.busy = false ∧ primitiveOf .write = some .write ∧ legal .write State.reset.phase = false)
    ∧ primitiveOf .start = some .start ∧ legal .start .started = false
    ∧ primitiveOf (.read true) = some (.read true) ∧ legal (.read true) .rxend = false
    ∧ isReserved .reserved6 = true := by decide

theorem witness_ReservedCommandsReportIllegal :
    (∀ i ∈ [Instr.reserved6, .reserved7, .reservedB, .reservedC, .reservedD, .reservedE, .reservedF],
      isReserved i = true)
    ∧ State.reset.busy = false ∧ (flying .start .host .idle).busy = true
    ∧ BitVec.extractLsb' 0 5 0xFFFFFFE6#32 = BitVec.extractLsb' 0 5 0x06#32 := by decide

theorem witness_SequenceCommandIsAcceptedOrRejected :
    sequenceOf .seqStatus = some .status ∧ sequenceOf .seqInit = some .init ∧ sequenceOf .seqMeasure = some .measure
    ∧ State.reset.busy = false ∧ State.reset.phase = .idle
    ∧ ({ State.reset with phase := .started } : State).busy = false
    ∧ ({ State.reset with phase := .started } : State).phase ≠ .idle := by decide

theorem witness_WritesWhileBusyAreDropped :
    (flying .start .host .idle).busy = true ∧ regAt 0x00#8 = some .cmd ∧ BitVec.extractLsb' 0 4 0x06#32 ≠ 0x0#4
    ∧ regAt 0x0C#8 = some .data ∧ guardedReg .data = true ∧ regAt 0x37#8 = some .raw5 ∧ guardedReg .raw5 = true := by
  decide

theorem witness_ReadOnlyAndUnmappedWritesAreIgnored :
    0x48 ≤ (0x48#8).toNat ∧ 0x48 ≤ (0xFF#8).toNat ∧ regAt 0x47#8 = some .tempC ∧ regAt 0x04#8 = some .csr := by decide

theorem witness_WritesStoreTheirFields :
    State.reset.busy = false ∧ regAt 0x0C#8 = some .data ∧ regAt 0x10#8 = some .div ∧ regAt 0x14#8 = some .cfg
    ∧ (regAt 0x20#8 = some .raw0 ∧ rawIndex .raw0 = some 0) ∧ (regAt 0x37#8 = some .raw5 ∧ rawIndex .raw5 = some 5) := by
  decide

/-- The host about to read CSR. -/
def hostReading : State := { State.reset with turns := [.host], host := [.rd 0x04#8] }

theorem witness_HostReadHasNoSideEffect :
    hostReading.turns = [.host] ∧ hostReading.hostDelay = 0 ∧ hostReading.host = [.rd 0x04#8] := by decide

/-- The ends of the reserved bits of CSR, and the numbers of R36 and R280 in a state of each phase and error. -/
theorem witness_RegistersReadTheirFields :
    14 ≤ 14 ∧ 14 ≤ 31 ∧ ({ State.reset with phase := .rxend } : State).phase = .rxend
    ∧ memRead { State.reset with phase := .rxend } 0x04#8 = 0x00003F40#32
    ∧ memRead { State.reset with err := .rejected, attempts := 256#9 } 0x18#8 = 0x00010006#32 := by decide

/-- OVR set by a dropped write, cleared by a write to CSR, cleared by reset. -/
theorem witness_OvrChangesOnlyAsStated :
    (∃ t, step (hostWriting 0x00#8 0x01#32 (flying .start .host .idle)) = .next t ∧ t.ovr ≠ false)
    ∧ (∃ t, step (hostWriting 0x04#8 0x04#32 { State.reset with ovr := true }) = .next t ∧ t.ovr ≠ true)
    ∧ (∃ t, step { State.reset with ovr := true, turns := [.rst] } = .next t ∧ t.ovr ≠ true) :=
  ⟨⟨_, rfl, by decide⟩, ⟨_, rfl, by decide⟩, ⟨_, rfl, by decide⟩⟩

theorem witness_ConfigurationChangesOnlyByHostWrites :
    (∃ t, step (hostWriting 0x10#8 0x48#32 State.reset) = .next t ∧ t.div ≠ State.reset.div)
    ∧ (∃ t, step (hostWriting 0x14#8 0x00#32 State.reset) = .next t ∧ ¬ (t.busyRetries = State.reset.busyRetries
      ∧ t.nackRetries = State.reset.nackRetries ∧ t.timeoutMs = State.reset.timeoutMs)) :=
  ⟨⟨_, rfl, by decide⟩, ⟨_, rfl, by decide⟩⟩

theorem witness_ResetGivesEveryFieldItsResetValue :
    ({ flying .write .seq .tx with turns := [.rst] } : State).turns = [.rst] := by decide

/-- Every row of the completion table: a primitive, a phase, DATA and an outcome, and the STATUS and PHASE they end
with (R158's table). -/
theorem witness_CompletionTable :
    ∀ x ∈ [(Prim.start, Phase.idle, 0x00#8, BusOutcome.ok, 0x08#8, Phase.started), (.start, .tx, 0x00#8, .ok, 0x10#8, .started),
        (.start, .rxend, 0x00#8, .ok, 0x10#8, .started), (.start, .tx, 0x00#8, .arb, 0x38#8, .idle),
        (.addr, .started, 0x70#8, .ack, 0x18#8, .tx), (.addr, .started, 0x70#8, .nack, 0x20#8, .tx),
        (.addr, .started, 0x71#8, .ack, 0x40#8, .rx), (.addr, .started, 0x71#8, .nack, 0x48#8, .rxend),
        (.addr, .started, 0x71#8, .arb, 0x38#8, .idle), (.write, .tx, 0x00#8, .ack, 0x28#8, .tx),
        (.write, .tx, 0x00#8, .nack, 0x30#8, .tx), (.write, .tx, 0x00#8, .arb, 0x38#8, .idle),
        (.read true, .rx, 0x00#8, .byte 0xFF#8, 0x50#8, .rx), (.read false, .rx, 0x00#8, .byte 0x00#8, 0x58#8, .rxend),
        (.read true, .rx, 0x00#8, .arb, 0x38#8, .idle), (.stop, .started, 0x00#8, .ok, 0xF8#8, .idle),
        (.stop, .rxend, 0x00#8, .ok, 0xF8#8, .idle), (.write, .tx, 0x00#8, .timeout, 0xE0#8, .idle)],
      (complete x.1 x.2.2.2.1 { State.reset with phase := x.2.1, data := x.2.2.1 }).status.code = x.2.2.2.2.1
      ∧ (complete x.1 x.2.2.2.1 { State.reset with phase := x.2.1, data := x.2.2.1 }).phase = x.2.2.2.2.2 := by decide

/-- `flying` with the bus's answer as the next turn. -/
def answeredNext (p : Prim) (origin : Origin) (ph : Phase) (o : BusOutcome) : State :=
  { flying p origin ph with turns := [.clock (some o)] }

/-- A host primitive with the timeout armed, a sequence's with it disabled, and the STOP of ABORT. -/
theorem witness_PrimitivesCompleteInOneStep :
    ((answeredNext .write .host .tx .nack).turns = [.clock (some .nack)]
      ∧ (answeredNext .write .host .tx .nack).opState = .inFlight .write .host ∧ BusOutcome.nack ≠ .timeout
      ∧ BusOutcome.nack ≠ .stall ∧ admits Config.singleMaster .write .tx
        (decide ((answeredNext .write .host .tx .nack).tocnt ≠ 0#32)) .nack = true)
    ∧ (({ answeredNext .addr .seq .started .nack with tocnt := 0#32, upc := 28#6 } : State).turns
        = [.clock (some .nack)]
      ∧ ({ answeredNext .addr .seq .started .nack with tocnt := 0#32, upc := 28#6 } : State).opState
        = .inFlight .addr .seq
      ∧ admits Config.singleMaster .addr .started (decide ((0#32 : BitVec 32) ≠ 0#32)) .nack = true
      ∧ (28#6 : Row) ≠ 62#6)
    ∧ (({ answeredNext .stop .seq .tx .ok with upc := 62#6 } : State).opState = .inFlight .stop .seq
      ∧ admits Config.singleMaster .stop .tx true .ok = true) :=
  ⟨⟨rfl, rfl, by decide, by decide, rfl⟩, ⟨rfl, rfl, rfl, by decide⟩, rfl, rfl⟩

/-- R155, R219: the NACK of a sequence's address byte restarts the transaction in the step in which it comes. -/
theorem test_seq_completion_is_checked_at_once :
    (nextOf (step { answeredNext .addr .seq .started .nack with upc := 28#6, data := 0x70#8 })).upc = 61#6
    ∧ (nextOf (step { answeredNext .addr .seq .started .nack with upc := 28#6, data := 0x70#8 })).nackcnt = 1#4
    ∧ (nextOf (step { answeredNext .addr .seq .started .nack with upc := 28#6, data := 0x70#8 })).busy = true :=
  ⟨rfl, rfl, rfl⟩

theorem witness_TimeoutComesAfterExactlyTocntCycles :
    (flying .write .host .tx).opState = .inFlight .write .host ∧ (flying .write .host .tx).tocnt.toNat = 1
    ∧ (0 : Nat) < 1
    ∧ ({ flying .addr .seq .started with tocnt := 0xFFFFFFFF#32 } : State).opState = .inFlight .addr .seq
    ∧ ({ flying .addr .seq .started with tocnt := 0xFFFFFFFF#32 } : State).tocnt.toNat = 4294967295
    ∧ (4294967294 : Nat) < 4294967295 := by decide

theorem witness_NoPrimitiveOutlivesItsTimeout :
    ({ flying .addr .seq .started with tocnt := 2#32 } : State).opState = .inFlight .addr .seq
    ∧ ({ flying .addr .seq .started with tocnt := 2#32 } : State).tocnt ≠ 0#32
    ∧ ([none, some .arb] : List (Option BusOutcome)).length
      = ({ flying .addr .seq .started with tocnt := 2#32 } : State).tocnt.toNat := by decide

theorem witness_BusWinsTheTieWithTheTimeout :
    ∃ t, (answeredNext .write .host .tx .ack).turns = [.clock (some .ack)]
    ∧ (answeredNext .write .host .tx .ack).opState = .inFlight .write .host
    ∧ (answeredNext .write .host .tx .ack).tocnt = 1#32 ∧ BusOutcome.ack ≠ .timeout
    ∧ admits Config.singleMaster .write (answeredNext .write .host .tx .ack).phase true .ack = true
    ∧ step (answeredNext .write .host .tx .ack) = .next t :=
  ⟨_, rfl, rfl, rfl, by decide, rfl, rfl⟩

/-- The core in Stalled. -/
def stalledCore : State := { State.reset with busy := true, opState := .stalled, timeoutMs := 0#8, turns := [.clock none] }

theorem witness_OnlyResetLeavesAStall :
    (({ answeredNext .write .host .tx .stall with tocnt := 0#32 } : State).opState = .inFlight .write .host
      ∧ ({ answeredNext .write .host .tx .stall with tocnt := 0#32 } : State).tocnt = 0#32)
    ∧ (∃ t, stalledCore.opState = .stalled ∧ stalledCore.busy = true ∧ step stalledCore = .next t
      ∧ (takeTurn stalledCore).1 ≠ .rst)
    ∧ (∃ t, step { stalledCore with turns := [.rst] } = .next t
      ∧ (takeTurn { stalledCore with turns := [.rst] }).1 = .rst)
    ∧ Instr.start ≠ .nop :=
  ⟨⟨rfl, rfl⟩, ⟨_, rfl, rfl, rfl, by decide⟩, ⟨_, rfl, rfl⟩, by decide⟩

/-- PHASE and STATUS changed by a completion; STATUS by an illegal command, a STOP in IDLE, and a STOP row in IDLE. -/
theorem witness_PhaseStatusAndDoneChangeOnlyAsStated :
    (∃ t, step (answeredNext .start .host .idle .ok) = .next t ∧ t.phase ≠ .idle ∧ t.status ≠ .idle)
    ∧ (∃ t, step (hostWriting 0x00#8 0x03#32 State.reset) = .next t ∧ t.status ≠ .idle)
    ∧ (∃ t, step (hostWriting 0x00#8 0x05#32 { State.reset with status := .illegal }) = .next t ∧ t.status ≠ .illegal)
    ∧ (∃ t, step { atRow .status 6#6 with status := .dataRxAck } = .next t ∧ t.status ≠ .dataRxAck) :=
  ⟨⟨_, rfl, by decide⟩, ⟨_, rfl, by decide⟩, ⟨_, rfl, by decide⟩, ⟨_, rfl, by decide⟩⟩

/-- DONE falls at an acceptance, and rises at the completion of a host primitive, at END, and at an illegal command. -/
theorem witness_DoneFallsAndRises :
    (∃ t, step (hostWriting 0x00#8 0x01#32 { State.reset with done := true }) = .next t ∧ t.done = false)
    ∧ (∃ t, step (answeredNext .write .host .tx .ack) = .next t ∧ (answeredNext .write .host .tx .ack).done = false
      ∧ t.done = true)
    ∧ (∃ t, step (atRow .status 8#6) = .next t ∧ (atRow .status 8#6).done = false ∧ t.done = true)
    ∧ (∃ t, step (hostWriting 0x00#8 0x06#32 State.reset) = .next t ∧ State.reset.done = false ∧ t.done = true) :=
  ⟨⟨_, rfl, rfl⟩, ⟨_, rfl, rfl, rfl⟩, ⟨_, rfl, rfl, rfl⟩, ⟨_, rfl, rfl, rfl⟩⟩

/-- DATA written by the host, by a READ, and by a micro-op. -/
theorem witness_DataChangesOnlyAsStated :
    (∃ t, step (hostWriting 0x0C#8 0x70#32 State.reset) = .next t ∧ t.data ≠ 0x00#8)
    ∧ (∃ t, step (answeredNext (.read true) .seq .rx (.byte 0x18#8)) = .next t ∧ t.data ≠ 0x00#8)
    ∧ (∃ t, step (atRow .status 1#6) = .next t ∧ t.data ≠ 0x00#8) :=
  ⟨⟨_, rfl, by decide⟩, ⟨_, rfl, by decide⟩, ⟨_, rfl, by decide⟩⟩

/-- Every row with a micro-op meets the hypotheses of the statements about one micro-op: START (rows 0 and 3), ADDR,
WRITE, READ, STOP open and in IDLE, SETSTAT, END, WAIT, BRCAL, COMMIT, BRBUSY, RETRY, ABORT. So it is the witness of
MicroOpsIssueTheirPrimitives, SstatIsWrittenBySetstatAlone, BrcalTestsTheCalibratedBit, CommitHandsOverTheReading,
BrbusyRetriesWithinBudget, RetryAndAbortStopTheTransaction and EndFinishesTheSequence. -/
theorem witness_MicroOpStatements :
    ∀ x ∈ [(0#6, MicroOp.start true), (3#6, .start false), (1#6, .addr 0x70#8), (2#6, .write 0x71#8), (5#6, .read 0 true),
        (41#6, .read 5 false), (6#6, .stop), (7#6, .setstat), (8#6, .endSeq), (9#6, .wait 40), (18#6, .brcal 26#6),
        (43#6, .commit), (44#6, .brbusy 33#6), (61#6, .retry), (62#6, .abort)],
      (atRow .measure x.1).turns = [.clock none] ∧ (atRow .measure x.1).opState = .idle
      ∧ (atRow .measure x.1).waiting = false ∧ rom (atRow .measure x.1).upc = some x.2
      ∧ (atRow .measure x.1).phase = .idle ∧ ({ atRow .measure x.1 with phase := .tx } : State).phase ≠ .idle := by
  decide

/-- A status of each clause, at a row of each kind. -/
theorem witness_StatusCheckActsInTheFirstCase :
    rom 1#6 = some (.addr 0x70#8) ∧ (0x70#8).getLsbD 0 = false
    ∧ BusStatus.slawAck.code ∈ [0x18#8] ∧ BusStatus.slawNack.code ∉ [0x18#8] ∧ BusStatus.slawNack.code = 0x20#8
    ∧ BusStatus.dataTxNack.code ∉ [0x18#8] ∧ BusStatus.arbLost.code ∉ [0x18#8] ∧ BusStatus.busTimeout.code ∉ [0x18#8]
    ∧ rom 41#6 = some (.read 5 false) ∧ BusStatus.dataRxNack.code ∈ [0x58#8]
    ∧ rom 4#6 = some (.addr 0x71#8) ∧ BusStatus.slarNack.code ∉ [0x40#8] ∧ BusStatus.slarNack.code = 0x48#8 := by decide

/-- A coherent state with row 0's START in flight. -/
def coherentFlight : State :=
  { State.reset with
    busy := true, seqkind := .status, upc := 0#6, opState := .inFlight .start .seq, timeoutMs := 0#8 }

theorem coherentFlight_inv : coherentFlight.inv = true := by
  have h : timerCoherent coherentFlight = true := by simp [timerCoherent, coherentFlight, State.reset]
  rw [State.inv, h]
  decide

theorem witness_StatusCheckIsTotal :
    coherentFlight.inv = true ∧ coherentFlight.opState = .inFlight .start .seq
    ∧ rom coherentFlight.upc = some (.start true) ∧ MicroOp.start true ≠ .retry ∧ MicroOp.start true ≠ .abort
    ∧ BusOutcome.ok ≠ .stall
    ∧ admits Config.singleMaster .start coherentFlight.phase (decide (coherentFlight.tocnt ≠ 0#32)) .ok = true :=
  ⟨coherentFlight_inv, rfl, rfl, by decide, by decide, by decide, rfl⟩

theorem witness_AddressNackRestartsWithinBudget :
    State.reset.nackcnt.toNat < State.reset.nackRetries.toNat
    ∧ ({ State.reset with nackcnt := 2#4 } : State).nackcnt.toNat < State.reset.nackRetries.toNat
    ∧ ¬ ({ State.reset with nackcnt := 3#4 } : State).nackcnt.toNat < State.reset.nackRetries.toNat := by decide

/-- The last cycle inside the wait of row 9, the first one, and the one that ends it. -/
theorem witness_WaitLastsExactly :
    (atRow .init 9#6).opState = .idle ∧ (atRow .init 9#6).waiting = false ∧ rom (atRow .init 9#6).upc = some (.wait 40)
    ∧ (1 ≤ (List.replicate 1 (none : Option BusOutcome)).length
      ∧ (List.replicate 1 (none : Option BusOutcome)).length ≤ 40 * Config.cyclesPerMs)
    ∧ (1 ≤ (List.replicate (40 * Config.cyclesPerMs) (none : Option BusOutcome)).length
      ∧ (List.replicate (40 * Config.cyclesPerMs) (none : Option BusOutcome)).length ≤ 40 * Config.cyclesPerMs)
    ∧ (List.replicate (40 * Config.cyclesPerMs + 1) (none : Option BusOutcome)).length
      = 40 * Config.cyclesPerMs + 1 := by
  have h := cyclesPerMs_pos
  refine ⟨rfl, rfl, rfl, ?_, ?_, ?_⟩ <;> simp <;> omega

theorem witness_SstatIsWrittenBySetstatAlone :
    ∃ t, step { atRow .status 7#6 with buf := exampleReading } = .next t ∧ t.sstat ≠ State.reset.sstat :=
  ⟨_, rfl, by decide⟩

/-- A coherent state at COMMIT; ATTEMPTS changed by COMMIT, by the acceptance of a SEQ_MEASURE, and by reset. -/
theorem witness_CommitHandsOverTheReading : (atRow .measure 43#6).inv = true
    ∧ (∃ t, step (atRow .measure 43#6) = .next t ∧ t.attempts ≠ 0#9)
    ∧ (∃ t, step (hostWriting 0x00#8 0x0A#32 { State.reset with attempts := 256#9 }) = .next t ∧ t.attempts ≠ 256#9)
    ∧ (∃ t, step { State.reset with attempts := 256#9, turns := [.rst] } = .next t ∧ t.attempts ≠ 256#9) :=
  ⟨by decide, ⟨_, rfl, by decide⟩, ⟨_, rfl, by decide⟩, ⟨_, rfl, by decide⟩⟩

/-- The three cases at their ends: the budget just not spent, just spent, and the busy bit clear. -/
theorem witness_BrbusyRetriesWithinBudget :
    (0x98#8).getLsbD 7 = true ∧ (9#9).toNat ≤ State.reset.busyRetries.toNat
    ∧ ¬ (10#9).toNat ≤ State.reset.busyRetries.toNat ∧ (0x7F#8).getLsbD 7 = false := by decide

theorem witness_RetryAndAbortStopTheTransaction :
    BusStatus.idle.code = 0xF8#8 ∧ BusStatus.busTimeout.code = 0xE0#8
    ∧ ({ State.reset with err := .dataNack } : State).err ≠ .ok := by decide

/-- VALID rises at END, and falls at a SEQ_MEASURE, at a write to RAW0, and at reset. -/
theorem witness_ValidChangesOnlyAsStated :
    (∃ t, step (atRow .measure 45#6) = .next t ∧ (atRow .measure 45#6).valid = false ∧ t.valid = true)
    ∧ (∃ t, step (hostWriting 0x00#8 0x0A#32 { State.reset with valid := true }) = .next t ∧ t.valid = false)
    ∧ (∃ t, step (hostWriting 0x20#8 0x00#32 { State.reset with valid := true }) = .next t ∧ t.valid = false)
    ∧ (∃ t, step { State.reset with valid := true, turns := [.rst] } = .next t ∧ t.valid = false) :=
  ⟨⟨_, rfl, rfl, rfl⟩, ⟨_, rfl, rfl⟩, ⟨_, rfl, rfl⟩, ⟨_, rfl, rfl⟩⟩

theorem witness_RawChangesOnlyAsStated :
    (∃ t, step { atRow .measure 43#6 with buf := exampleReading } = .next t ∧ t.raw ≠ State.reset.raw)
    ∧ (∃ t, step (hostWriting 0x34#8 0x01#32 State.reset) = .next t ∧ t.raw ≠ State.reset.raw) :=
  ⟨⟨_, rfl, by decide⟩, ⟨_, rfl, by decide⟩⟩

/-- ERR written by a rejection, and by the first error of a sequence. -/
theorem witness_ErrKeepsTheFirstError :
    (∃ t, step (hostWriting 0x00#8 0x08#32 { State.reset with phase := .tx }) = .next t ∧ t.err ≠ .ok)
    ∧ (∃ t, step { atRow .measure 44#6 with raw := { Reading.zero with b0 := 0x80#8 }, attempts := 10#9 } = .next t
      ∧ t.err ≠ .ok) :=
  ⟨⟨_, rfl, by decide⟩, ⟨_, rfl, by decide⟩⟩

/-- The hypotheses of SeqStatusSuccessPath, SeqInitSuccessPath (calibrated and not) and
SeqMeasureSuccessPath, at reset. -/
theorem witness_SequenceSuccessPaths :
    State.reset.busy = false ∧ State.reset.phase = .idle ∧ State.reset.opState = .idle ∧ State.reset.waiting = false
    ∧ (0x18#8).getLsbD 3 = true ∧ (0x10#8).getLsbD 3 = false ∧ exampleReading.b0.getLsbD 7 = false := by decide

theorem witness_EverySequenceFinishes : (atRow .measure 27#6).inv = true ∧ (atRow .measure 27#6).timeoutMs ≠ 0#8 := by
  decide

theorem witness_StepKeepsCoherence : ∃ t, (atRow .measure 43#6).inv = true ∧ step (atRow .measure 43#6) = .next t :=
  ⟨_, by decide, rfl⟩

theorem witness_RunningSequenceDropsCommands :
    (atRow .measure 27#6).inv = true ∧ (atRow .measure 27#6).seqkind ≠ .none ∧ Instr.stop ≠ .nop := by decide

/-- The host about to call a pseudo-instruction. -/
def hostCalling (c : HostCall) : State := { State.reset with turns := [.host], host := [.call c] }

/-- Out of range: the address 128, and the frequency 0 at any core clock. In range: 127, and `i2c.wait`. -/
theorem witness_StepAlwaysAnswers :
    (hostCalling (.i2cAddrW 128)).turns = [.host] ∧ (hostCalling (.i2cAddrW 128)).hostDelay = 0
    ∧ (hostCalling (.i2cAddrW 128)).host = [.call (.i2cAddrW 128)]
    ∧ (HostCall.i2cAddrW 128).addressInRange = false ∧ (HostCall.i2cInit 0).divisorInRange Config.fCoreHz = false
    ∧ (HostCall.i2cAddrR 127).addressInRange = true ∧ (HostCall.i2cAddrR 127).divisorInRange Config.fCoreHz = true
    ∧ HostCall.i2cWait.addressInRange = true ∧ HostCall.i2cWait.divisorInRange Config.fCoreHz = true := by
  refine ⟨rfl, rfl, rfl, rfl, ?_, rfl, rfl, rfl, rfl⟩
  simp [HostCall.divisorInRange]

theorem witness_FractionsAreUnpacked : (2 ^ 20 - 1 : Nat) < 2 ^ 20 := by decide

theorem witness_DecodedRegistersDependOnRaw1To5Alone :
    ({ State.reset with raw := { Reading.zero with b0 := 0xFF#8 } } : State).raw.b1 = State.reset.raw.b1
    ∧ 0x38 ≤ (0x38#8).toNat ∧ (0x47#8).toNat ≤ 0x47 := by decide

/-- At 16 MHz, on both sides of each bound: 1 MHz gives 16 and 1000001 Hz gives 15; 30418 Hz gives 526 and so the divisor
255, 30300 Hz gives 528 and so 256; and the addresses 127 and 128. -/
theorem witness_PseudoInstructionsAreExpandedOrRefused :
    16000000 / 1000001 < 16 ∧ 16 ≤ 16000000 / 1000000 ∧ (16000000 / 1000000 - 16) / 2 ≤ 255
    ∧ (16000000 / 30418 - 16) / 2 = 255 ∧ 255 < (16000000 / 30300 - 16) / 2 ∧ 127 < 128 ∧ 127 ≤ 127 := by decide

/-- `i2c.wait` at the head of the program. -/
theorem witness_PollRepeatsUntilItMatches :
    ({ State.reset with turns := [.host], host := [waitLine] } : State).turns = [.host]
    ∧ ({ State.reset with turns := [.host], host := [waitLine] } : State).hostDelay = 0
    ∧ waitLine = .poll 0x04#8 0x1#32 0#32 := by decide

end Sys2Proof.Tests
end

section
/-! Host writes, by the register they reach (spec/20_memory.md R86, R89, R92). -/

namespace Sys2Proof.Machine

/-! ### Commands while BUSY = 1 -/

/-- NOP is the one command with OP = 0 (R112). -/
theorem decode_eq_nop_iff (w : Word) : decode w = .nop ↔ opField w = 0x0#4 := by
  constructor
  · intro h
    unfold decode at h
    split at h
    · next h0 => exact BitVec.eq_of_toNat_eq h0
    all_goals cases h
  · intro h
    simp [decode, h]

/-- Every command but NOP is dropped while BUSY = 1, whichever kind it is (R89, R115 b). -/
theorem exec_of_busy {i : Instr} {s : State} (hb : s.busy = true) (hi : i ≠ .nop) :
    exec i s = .next (overrun s) := by
  obtain ⟨t, ht, hstep⟩ := exec_step i s
  rw [ht]
  cases hstep with
  | nop hnop => exact absurd hnop hi
  | dropped => rfl
  | illegal hidle | idleStop hidle | accepted _ hidle | rejected _ hidle | sequence _ _ hidle =>
    exact absurd (hb.symm.trans hidle) Bool.noConfusion

/-! ### Register writes -/

theorem unlessBusy_of_busy {s : State} (hb : s.busy = true) (s' : State) : unlessBusy s s' = overrun s :=
  if_pos hb

/-- Each of DATA, DIV, CFG and RAW0 to RAW5 is written through `unlessBusy` (R89). -/
theorem writeReg_guarded_of_busy {s : State} {r : Reg} (hb : s.busy = true) (hg : guardedReg r = true) (v : Word) :
    writeReg v r s = overrun s := by
  cases r
  case data | div | cfg | raw0 | raw1 | raw2 | raw3 | raw4 | raw5 => exact unlessBusy_of_busy hb _
  all_goals cases hg

/-- Of the registers that are not guarded, only CSR takes a write here (R92). -/
theorem writeReg_of_not_guarded {r : Reg} (hg : guardedReg r = false) (hc : r ≠ .csr) (v : Word) (s : State) :
    writeReg v r s = s := by
  cases r
  case csr => exact absurd rfl hc
  case data | div | cfg | raw0 | raw1 | raw2 | raw3 | raw4 | raw5 => cases hg
  all_goals rfl

/-- OVR is cleared by bit 2 of the word and otherwise kept (R35). -/
theorem writeCsr_eq (v : Word) (s : State) :
    writeCsr v s = { s with ovr := if v.getLsbD 2 then false else s.ovr } := by
  rw [writeCsr, csrClearsOvr]
  cases v.getLsbD 2 <;> simp

/-! ### Offsets -/

/-- The slots from 18 on, the offsets from 0x48 on, are unmapped (R81). -/
theorem regAt_unmapped {off : Offset} (h : 0x48 ≤ off.toNat) : regAt off = none := by
  have hslot : 18 ≤ (slotOf off).toNat := by
    rw [slotOf, BitVec.extractLsb'_toNat, Nat.shiftRight_eq_div_pow]
    omega
  unfold regAt regOfSlot
  split
  case h_19 => rfl
  all_goals omega

theorem memRead_unmapped {off : Offset} (h : regAt off = none) (s : State) : memRead s off = 0#32 := by
  rw [memRead, h]

theorem memWrite_unmapped {off : Offset} (h : regAt off = none) (v : Word) (s : State) : memWrite off v s = .next s := by
  rw [memWrite, h]

theorem memWrite_cmd {off : Offset} (h : regAt off = some .cmd) (v : Word) (s : State) :
    memWrite off v s = exec (decode v) s := by
  rw [memWrite, h]

/-- A write to a register other than CMD is `writeReg`'s (R84). -/
theorem memWrite_reg {off : Offset} {r : Reg} (h : regAt off = some r) (hr : r ≠ .cmd) (v : Word) (s : State) :
    memWrite off v s = .next (writeReg v r s) := by
  rcases memWrite_cases off v s with ⟨hcmd, _⟩ | ⟨r', hr', _, e⟩ | ⟨hnone, _⟩
  · exact absurd (Option.some.inj (h.symm.trans hcmd)) hr
  · rw [e, Option.some.inj (h.symm.trans hr')]
  · cases h.symm.trans hnone

/-! ### The statements -/

/-- Settles O12: a dropped command by `exec_of_busy`, a dropped register write by `writeReg_guarded_of_busy`. -/
theorem writesWhileBusyAreDropped : Obligations.WritesWhileBusyAreDropped := by
  intro s off v r hb hreg htarget
  change memWrite off v s = .next (overrun s)
  rcases htarget with ⟨rfl, hop⟩ | hg
  · rw [memWrite_cmd hreg]
    exact exec_of_busy hb fun hnop => hop ((decode_eq_nop_iff v).mp hnop)
  · have hr : r ≠ .cmd := by rintro rfl; cases hg
    rw [memWrite_reg hreg hr, writeReg_guarded_of_busy hb hg]

/-- Settles O13: an offset from 0x48 on reaches no register, a read-only register is neither guarded nor CSR, and a
write to CSR is `writeCsr_eq`. -/
theorem readOnlyAndUnmappedWritesAreIgnored : Obligations.ReadOnlyAndUnmappedWritesAreIgnored := by
  refine ⟨fun s off v hoff => ?_, fun s off v r hreg => ⟨fun hro => ?_, ?_⟩⟩
  · have hnone := regAt_unmapped hoff
    exact ⟨memRead_unmapped hnone s, memWrite_unmapped hnone v s⟩
  · obtain ⟨hcmd, hcsr, hg⟩ : r ≠ .cmd ∧ r ≠ .csr ∧ guardedReg r = false := by
      rcases hro with rfl | rfl | rfl | rfl | rfl | rfl | rfl <;> decide
    rw [memWrite_reg hreg hcmd, writeReg_of_not_guarded hg hcsr]
  · rintro rfl
    rw [memWrite_reg hreg (by decide), ← writeCsr_eq]
    rfl

end Sys2Proof.Machine
end

section
/-! Commands by the OP of the word written to CMD (spec/30_encoding.md R110 to R118). -/

namespace Sys2Proof.Machine

/-! ### What the decoder reads -/

/-- The decoder keeps OP: the row of R112 it picks is the one OP names. -/
theorem opcodeOf_decode (w : Word) : opcodeOf (decode w) = opField w := by
  unfold decode
  split
  case h_16 =>
    have hlt := (opField w).isLt
    simp only [imp_false] at *
    have hop : (opField w).toNat = 0xF := by omega
    exact BitVec.eq_of_toNat_eq hop.symm
  all_goals next hop => exact BitVec.eq_of_toNat_eq hop.symm

/-- READ's operand is CMD.ACK (R113). -/
theorem ack_of_decode_eq_read {w : Word} {a : Bool} (h : decode w = .read a) : a = ackField w := by
  unfold decode at h
  split at h
  case h_5 => exact (Instr.read.inj h).symm
  all_goals cases h

/-- The decoder reads OP and ACK and no other bit (R110, R114). -/
theorem decode_congr {w w' : Word} (hop : opField w = opField w') (hack : ackField w = ackField w') :
    decode w = decode w' := by
  rw [decode, decode, hop, hack]

theorem opField_eq_extract_low5 (w : Word) : opField w = (w.extractLsb' 0 5).extractLsb' 0 4 := by
  ext k hk
  simp [opField]

theorem ackField_eq_getLsbD_low5 (w : Word) : ackField w = (w.extractLsb' 0 5).getLsbD 4 := by
  simp [ackField]

/-! ### The kinds of command, by OP -/

theorem isReserved_iff_opcode (i : Instr) :
    isReserved i = true ↔
      (opcodeOf i).toNat = 0x6 ∨ (opcodeOf i).toNat = 0x7 ∨ 0xB ≤ (opcodeOf i).toNat := by
  cases i <;> simp [isReserved, opcodeOf]

/-- The rows 0x1 to 0x5 of R112. -/
theorem opcode_of_primitive {i : Instr} {p : Prim} (h : primitiveOf i = some p) :
    ((opcodeOf i).toNat = 0x1 ∧ p = .start) ∨ ((opcodeOf i).toNat = 0x2 ∧ p = .addr)
    ∨ ((opcodeOf i).toNat = 0x3 ∧ p = .write) ∨ ((opcodeOf i).toNat = 0x4 ∧ ∃ a, i = .read a ∧ p = .read a)
    ∨ ((opcodeOf i).toNat = 0x5 ∧ p = .stop) := by
  cases i
  case start | addr | write | read | stop => cases h; simp [opcodeOf]
  all_goals cases h

/-- The rows 0x8 to 0xA of R112. -/
theorem opcode_of_sequence {i : Instr} {k : SeqKind} (h : sequenceOf i = some k) :
    ((opcodeOf i).toNat = 0x8 ∧ k = .status) ∨ ((opcodeOf i).toNat = 0x9 ∧ k = .init)
    ∨ ((opcodeOf i).toNat = 0xA ∧ k = .measure) := by
  cases i
  case seqStatus | seqInit | seqMeasure => cases h; simp [opcodeOf]
  all_goals cases h

/-! ### Case (c) of R115 -/

/-- Case (c) over the value of OP: a reserved value, or a primitive in a phase R151 does not allow. Reducible, so that it
is the condition that O4 writes out. -/
abbrev IllegalOp (op : Nat) (ph : Phase) : Prop :=
  op = 0x6 ∨ op = 0x7 ∨ 0xB ≤ op
    ∨ (op = 0x1 ∧ ¬ (ph = .idle ∨ ph = .tx ∨ ph = .rxend))
    ∨ (op = 0x2 ∧ ph ≠ .started) ∨ (op = 0x3 ∧ ph ≠ .tx) ∨ (op = 0x4 ∧ ph ≠ .rx)

theorem illegalOp_of_reserved {i : Instr} (h : isReserved i = true) (ph : Phase) :
    IllegalOp (opcodeOf i).toNat ph := by
  unfold IllegalOp
  rcases (isReserved_iff_opcode i).mp h with h6 | h7 | hB
  · exact .inl h6
  · exact .inr (.inl h7)
  · exact .inr (.inr (.inl hB))

/-- For a primitive, case (c) is R151's legality table. -/
theorem illegalOp_iff_of_primitive {i : Instr} {p : Prim} (h : primitiveOf i = some p) (ph : Phase) :
    IllegalOp (opcodeOf i).toNat ph ↔ legal p ph = false := by
  rcases opcode_of_primitive h with ⟨hop, rfl⟩ | ⟨hop, rfl⟩ | ⟨hop, rfl⟩ | ⟨hop, a, -, rfl⟩ | ⟨hop, rfl⟩ <;>
    cases ph <;> simp [IllegalOp, hop, legal]

theorem not_illegalOp_of_sequence {i : Instr} {k : SeqKind} (h : sequenceOf i = some k) (ph : Phase) :
    ¬ IllegalOp (opcodeOf i).toNat ph := by
  rcases opcode_of_sequence h with ⟨hop, -⟩ | ⟨hop, -⟩ | ⟨hop, -⟩ <;> simp [IllegalOp, hop]

/-! ### The reserved commands -/

theorem exec_reserved {i : Instr} (h : isReserved i = true) (s : State) : exec i s = .next (commandReserved s) := by
  cases i
  case reserved6 | reserved7 | reservedB | reservedC | reservedD | reservedE | reservedF => rfl
  all_goals cases h

/-! ### The statements -/

/-- Settles O4: the constructors of `CommandStep` are the cases (a) to (g), and in each the earlier conditions fail by
the OP of the command. -/
theorem commandDispatchTakesFirstCase : Obligations.CommandDispatchTakesFirstCase := by
  intro s w op ack hop hack
  have hcode : (opcodeOf (decode w)).toNat = op := by rw [opcodeOf_decode, hop]; rfl
  have hzero : decode w = .nop ↔ op = 0x0 := by
    rw [decode_eq_nop_iff, hop]
    exact BitVec.toNat_inj.symm
  obtain ⟨t, ht, hstep⟩ := exec_step (decode w) s
  rw [memWrite_cmd rfl, ht]
  cases hstep with
  | nop hi => rw [if_pos (hzero.mp hi)]
  | dropped hb hi => rw [if_neg (mt hzero.mpr hi), if_pos hb]; rfl
  | illegal hb hi hr =>
    have hc : IllegalOp op s.phase := by
      rw [← hcode]
      rcases hr with hres | ⟨p, hp, hl⟩
      · exact illegalOp_of_reserved hres s.phase
      · exact (illegalOp_iff_of_primitive hp s.phase).mpr hl
    rw [if_neg (mt hzero.mpr hi), if_neg (by simp [hb]), if_pos hc]; rfl
  | idleStop hb hi hp =>
    have h5 : op = 0x5 := by rw [← hcode, hi]; rfl
    have hc : ¬ IllegalOp op s.phase := by
      rw [← hcode, illegalOp_iff_of_primitive (congrArg primitiveOf hi) s.phase]
      exact Bool.noConfusion
    rw [if_neg (by omega), if_neg (by simp [hb]), if_neg hc, if_pos ⟨h5, hp⟩]; rfl
  | accepted p hb hi hi' hl hs =>
    have hc : ¬ IllegalOp op s.phase := by
      rw [← hcode, illegalOp_iff_of_primitive hi' s.phase, hl]
      exact Bool.noConfusion
    rw [if_neg (mt hzero.mpr hi), if_neg (by simp [hb]), if_neg hc]
    rcases opcode_of_primitive hi' with ⟨h, rfl⟩ | ⟨h, rfl⟩ | ⟨h, rfl⟩ | ⟨h, a, ha, rfl⟩ | ⟨h, rfl⟩ <;>
      obtain rfl := hcode.symm.trans h
    case inr.inr.inr.inl => obtain rfl : a = ack := (ack_of_decode_eq_read ha).trans hack.symm; rfl
    case inr.inr.inr.inr => rw [if_neg fun hstop => hs ⟨rfl, hstop.2⟩]; rfl
    all_goals rfl
  | rejected k hb hi hi' hp =>
    have hc : ¬ IllegalOp op s.phase := hcode ▸ not_illegalOp_of_sequence hi' s.phase
    rw [if_neg (mt hzero.mpr hi), if_neg (by simp [hb]), if_neg hc, if_neg fun hstop => hp hstop.2]
    have hseq : ¬ op ≤ 0x5 := by rcases opcode_of_sequence hi' with ⟨h, -⟩ | ⟨h, -⟩ | ⟨h, -⟩ <;> omega
    rw [if_neg hseq, if_pos hp]; rfl
  | sequence k hk hb hi hi' hp =>
    have hc : ¬ IllegalOp op s.phase := hcode ▸ not_illegalOp_of_sequence hi' s.phase
    rw [if_neg (mt hzero.mpr hi), if_neg (by simp [hb]), if_neg hc]
    rcases opcode_of_sequence hi' with ⟨h, rfl⟩ | ⟨h, rfl⟩ | ⟨h, rfl⟩ <;> obtain rfl := hcode.symm.trans h
    all_goals
      rw [if_neg (by omega), if_neg (by omega), if_neg (not_not.mpr hp)]
      rfl

/-- Settles O10: the reserved commands share one meaning, `isReserved_iff_opcode` gives their OP values, and the bits
the decoder reads are among bits [4:0]. -/
theorem reservedCommandsReportIllegal : Obligations.ReservedCommandsReportIllegal := by
  refine ⟨fun s i hi => ⟨fun hb => ?_, fun hb => ?_⟩, fun w => ?_, fun w w' hlow => ?_⟩
  · rw [exec_reserved hi, commandReserved, if_neg (by simp [hb]), reportIllegal]
  · rw [exec_reserved hi, commandReserved, if_pos hb, overrun]
  · rw [isReserved_iff_opcode, opcodeOf_decode, opField]
  · apply decode_congr
    · rw [opField_eq_extract_low5, hlow, ← opField_eq_extract_low5]
    · rw [ackField_eq_getLsbD_low5, hlow, ← ackField_eq_getLsbD_low5]

/-- Settles O3: nineteen closed words, each evaluated by the decoder. -/
theorem specWordsDecode : Obligations.SpecWordsDecode := by
  unfold Obligations.SpecWordsDecode
  decide

end Sys2Proof.Machine
end

section
/-! The primitives: legality, acceptance and completion (spec/40_i2c_master.md R151 to R160). -/

namespace Sys2Proof.Machine

/-! ### Legality -/

theorem legal_start_iff (ph : Phase) : legal .start ph = true ↔ ph = .idle ∨ ph = .tx ∨ ph = .rxend := by
  cases ph <;> simp [legal]

theorem legal_addr_iff (ph : Phase) : legal .addr ph = true ↔ ph = .started := by
  cases ph <;> simp [legal]

theorem legal_write_iff (ph : Phase) : legal .write ph = true ↔ ph = .tx := by
  cases ph <;> simp [legal]

theorem legal_read_iff (ack : Bool) (ph : Phase) : legal (.read ack) ph = true ↔ ph = .rx := by
  cases ph <;> simp [legal]

@[simp] theorem legal_stop (ph : Phase) : legal .stop ph = true := rfl

/-! ### The command of a primitive at BUSY = 0 -/

theorem exec_primitive {i : Instr} {p : Prim} (h : primitiveOf i = some p) (s : State) :
    exec i s = .next (commandPrimitive p s) := by
  cases i
  case start | addr | write | read | stop => cases h; rfl
  all_goals cases h

/-- Case (e) of R115. -/
theorem commandPrimitive_of_legal {p : Prim} {s : State} (hb : s.busy = false) (hl : legal p s.phase = true)
    (hs : ¬ (p = .stop ∧ s.phase = .idle)) : commandPrimitive p s = acceptPrimitive p s := by
  rw [commandPrimitive, if_neg (by simp [hb]), if_neg (by simp [hl]), if_neg hs]

/-- Case (c) of R115, for a primitive. -/
theorem commandPrimitive_of_illegal {p : Prim} {s : State} (hb : s.busy = false) (hl : legal p s.phase = false) :
    commandPrimitive p s = reportIllegal s := by
  rw [commandPrimitive, if_neg (by simp [hb]), if_pos (by simp [hl])]

/-- Case (c) of R115, for a reserved OP value. -/
theorem commandReserved_of_idle {s : State} (hb : s.busy = false) : commandReserved s = reportIllegal s := by
  rw [commandReserved, if_neg (by simp [hb])]

/-- What stands on the bus follows from `op_state`, PHASE and DATA, which an illegal command leaves alone (R153). -/
@[simp] theorem onBus_reportIllegal (s : State) : onBus (reportIllegal s) = onBus s := rfl

/-! ### Completion -/

/-- A timeout has its row for every primitive in every phase (R158). -/
theorem completionRow_timeout (p : Prim) (ph : Phase) (dir : Bool) :
    completionRow p ph dir .timeout = some ⟨.busTimeout, .idle, none⟩ := by
  cases p <;> rfl

/-- A STOP with a transaction open has one row for the four phases (R158). -/
theorem completionRow_stop {ph : Phase} (h : ph ≠ .idle) (dir : Bool) :
    completionRow .stop ph dir .ok = some ⟨.idle, .idle, none⟩ := by
  cases ph
  case idle => exact absurd rfl h
  all_goals rfl

/-- One line of R158 that receives no byte: the row is applied as it stands, and STATUS reads as its code. -/
theorem complete_row_and_code {p : Prim} {o : BusOutcome} {s t : State} {st : BusStatus} {ph : Phase} {code : Byte}
    (ht : t = complete p o s) (hrow : completionRow p s.phase (dirRead s.data) o = some ⟨st, ph, none⟩)
    (hcode : st.code = code) : t = { s with status := st, phase := ph } ∧ t.status.code = code := by
  rw [ht, complete_of_row hrow]
  exact ⟨rfl, hcode⟩

/-- One line of R158 that receives a byte: DATA takes it. -/
theorem complete_byte_row_and_code {p : Prim} {o : BusOutcome} {s t : State} {st : BusStatus} {ph : Phase} {b code : Byte}
    (ht : t = complete p o s) (hrow : completionRow p s.phase (dirRead s.data) o = some ⟨st, ph, some b⟩)
    (hcode : st.code = code) : t = { s with status := st, phase := ph, data := b } ∧ t.status.code = code := by
  rw [ht, complete_of_row hrow]
  exact ⟨rfl, hcode⟩

/-! ### The statements -/

/-- Settles O7: `exec_primitive` and case (e) of R115. -/
theorem legalPrimitiveIsAccepted : Obligations.LegalPrimitiveIsAccepted := by
  intro s i p hp hb hl hs
  rw [exec_primitive hp, commandPrimitive_of_legal hb hl hs]
  rfl

/-- Settles O8: a primitive and a reserved command both come to `reportIllegal`, which the bus does not see. -/
theorem illegalPrimitiveIsReported : Obligations.IllegalPrimitiveIsReported := by
  intro s i hb hi
  change exec i s = .next (reportIllegal s) ∧ onBus (reportIllegal s) = onBus s
  refine ⟨?_, onBus_reportIllegal s⟩
  rcases hi with ⟨p, hp, hl⟩ | hres
  · rw [exec_primitive hp, commandPrimitive_of_illegal hb hl]
  · rw [exec_reserved hres, commandReserved_of_idle hb]

/-- Settles O22: each line is a row of `completionRow`, found by the phase (and by DATA[0] for ADDR), and
`complete_row_and_code` applies it. -/
theorem completionTable : Obligations.CompletionTable := by
  intro s p o t ht
  refine ⟨?start, ?restart, ?restartArb, ?slawAck, ?slawNack, ?slarAck, ?slarNack, ?addrArb, ?writeAck, ?writeNack,
    ?writeArb, ?readAck, ?readNack, ?readArb, ?stop, ?timeout⟩
  case start | addrArb | writeAck | writeNack | writeArb =>
    rintro rfl hph rfl
    exact complete_row_and_code ht (by rw [hph]; rfl) rfl
  case restart | restartArb =>
    rintro rfl (hph | hph) rfl <;> exact complete_row_and_code ht (by rw [hph]; rfl) rfl
  case slawAck | slawNack | slarAck | slarNack =>
    rintro rfl hph rfl hdir
    exact complete_row_and_code ht (by rw [hph, dirRead, hdir]; rfl) rfl
  case readAck | readNack =>
    rintro b rfl hph rfl
    exact complete_byte_row_and_code ht (by rw [hph]; rfl) rfl
  case readArb =>
    rintro ack rfl hph rfl
    exact complete_row_and_code ht (by rw [hph]; rfl) rfl
  case stop =>
    rintro rfl hph rfl
    exact complete_row_and_code ht (completionRow_stop hph _) rfl
  case timeout =>
    rintro rfl
    exact complete_row_and_code ht (completionRow_timeout p _ _) rfl

/-- Settles O6: the write reaches CMD, and OP = 0 decodes to NOP whatever the other bits. -/
theorem nopHasNoEffect : Obligations.NopHasNoEffect := by
  refine fun s => ⟨rfl, fun w hop => ?_⟩
  have hnop : decode w = .nop := (decode_eq_nop_iff w).mpr hop
  refine ⟨hnop, ?_⟩
  rw [memWrite_cmd rfl, hnop]
  rfl

/-- Settles O9: the table, column by column. -/
theorem legalityTable : Obligations.LegalityTable :=
  ⟨legal_start_iff, legal_addr_iff, legal_write_iff, fun ph ack => legal_read_iff ack ph, legal_stop⟩

end Sys2Proof.Machine
end

section
/-! The sequence commands at BUSY = 0 (spec/41_sequencer.md R201). -/

namespace Sys2Proof.Machine

/-! ### The command of a sequence -/

theorem exec_sequence {i : Instr} {k : SeqKind} (h : sequenceOf i = some k) (s : State) :
    exec i s = .next (commandSequence k s) := by
  cases i
  case seqStatus | seqInit | seqMeasure => cases h; rfl
  all_goals cases h

/-- Case (f) of R115. -/
theorem commandSequence_of_open {s : State} (hb : s.busy = false) (hp : s.phase ≠ .idle) (k : SeqKind) :
    commandSequence k s = rejectSequence s := by
  rw [commandSequence, if_neg (by simp [hb]), if_pos hp]

/-- Case (g) of R115. -/
theorem commandSequence_of_idle {s : State} (hb : s.busy = false) (hp : s.phase = .idle) (k : SeqKind) :
    commandSequence k s = acceptSequence k s := by
  rw [commandSequence, if_neg (by simp [hb]), if_neg (not_not.mpr hp)]

/-! ### The command and its sequence kind -/

/-- SEQ_MEASURE is the one command that starts a measurement. -/
theorem eq_seqMeasure_iff_of_sequence {i : Instr} {k : SeqKind} (h : sequenceOf i = some k) :
    i = .seqMeasure ↔ k = .measure := by
  cases i
  case seqStatus | seqInit | seqMeasure => cases h; decide
  all_goals cases h

/-- The entry row by the command (R201). -/
theorem entry_of_sequence {i : Instr} {k : SeqKind} (h : sequenceOf i = some k) :
    k.entry = if i = .seqStatus then 0#6 else if i = .seqInit then 9#6 else 27#6 := by
  cases i
  case seqStatus | seqInit | seqMeasure => cases h; rfl
  all_goals cases h

/-! ### The statement -/

/-- Settles O11: cases (f) and (g) of R115; the acceptance writes, which the model gives by sequence kind, are restated
by command. -/
theorem sequenceCommandIsAcceptedOrRejected : Obligations.SequenceCommandIsAcceptedOrRejected := by
  intro s i k hk hb
  rw [exec_sequence hk]
  refine ⟨fun hp => ?rejected, fun hp => ?accepted⟩
  case rejected =>
    rw [commandSequence_of_open hb hp, rejectSequence]
  case accepted =>
    rw [commandSequence_of_idle hb hp, acceptSequence, entry_of_sequence hk]
    simp only [eq_seqMeasure_iff_of_sequence hk]

end Sys2Proof.Machine
end

section
/-! The packed-field decoder and the registers that read it (spec/42_decoder.md R250 to R252, R257). -/

namespace Sys2Proof.Machine

/-! ### Fields side by side -/

/-- As numbers, the left part of a concatenation counts in units of the right part's range. -/
theorem toNat_append_eq_add {m n : Nat} (x : BitVec m) (y : BitVec n) :
    (x ++ y).toNat = x.toNat * 2 ^ n + y.toNat := by
  rw [BitVec.toNat_append, ← Nat.shiftLeft_add_eq_or_of_lt y.isLt, Nat.shiftLeft_eq]

/-- Two fields shifted into place and joined by OR are their concatenation. -/
theorem shifted_or_eq_append {m n : Nat} (x : BitVec m) (y : BitVec n) :
    (x.setWidth (m + n) <<< n) ||| y.setWidth (m + n) = x ++ y := by
  rw [BitVec.append_def, BitVec.shiftLeftZeroExtend_eq, BitVec.setWidth'_eq]

/-- Three fields shifted into place and joined by OR are their concatenation: each bit lies in one of them. -/
theorem shifted_or_or_eq_append {l m n : Nat} (x : BitVec l) (y : BitVec m) (z : BitVec n) :
    (x.setWidth (l + m + n) <<< (m + n)) ||| (y.setWidth (l + m + n) <<< n) ||| z.setWidth (l + m + n)
      = x ++ y ++ z := by
  ext k hk
  rw [BitVec.getElem_append]
  by_cases hz : k < n
  · have hx : k < m + n := by omega
    simp [hz, hx]
  · rw [dif_neg hz, BitVec.getElem_append]
    have hzero : z.getLsbD k = false := BitVec.getLsbD_of_ge z k (by omega)
    by_cases hy : k - n < m
    · have hx : k < m + n := by omega
      simp [hz, hx, hy, hzero]
    · have hx : ¬ k < m + n := by omega
      have hyzero : y.getLsbD (k - n) = false := BitVec.getLsbD_of_ge y (k - n) (by omega)
      have hsub : k - (m + n) = k - n - m := by omega
      have hlt : k - n - m < l := by omega
      simp [hz, hx, hy, hzero, hyzero, hsub, hlt]

/-- Three slices that cover a word, put together again. -/
theorem append_extractLsb'_three (l m n : Nat) (x : BitVec (l + m + n)) :
    x.extractLsb' (m + n) l ++ x.extractLsb' n m ++ x.extractLsb' 0 n = x := by
  rw [BitVec.extractLsb'_append_extractLsb'_eq_extractLsb' (Nat.add_comm m n),
    BitVec.extractLsb'_append_extractLsb'_eq_extractLsb' (Nat.zero_add n).symm, BitVec.extractLsb'_eq_self]

/-! ### The two fractions -/

/-- humidity20 = RAW1 : RAW2 : RAW3[7:4] (R250). -/
theorem humidity20_eq_append (r : Reading) : humidity20 r = r.b1 ++ r.b2 ++ r.b3.extractLsb' 4 4 :=
  shifted_or_or_eq_append r.b1 r.b2 (r.b3.extractLsb' 4 4)

/-- temperature20 = RAW3[3:0] : RAW4 : RAW5 (R251). -/
theorem temperature20_eq_append (r : Reading) : temperature20 r = r.b3.extractLsb' 0 4 ++ r.b4 ++ r.b5 :=
  shifted_or_or_eq_append (r.b3.extractLsb' 0 4) r.b4 r.b5

theorem toNat_humidity20 (r : Reading) :
    (humidity20 r).toNat = r.b1.toNat * 2 ^ 12 + r.b2.toNat * 2 ^ 4 + r.b3.toNat / 16 := by
  rw [humidity20_eq_append, toNat_append_eq_add, toNat_append_eq_add, BitVec.extractLsb'_toNat,
    Nat.shiftRight_eq_div_pow]
  omega

theorem toNat_temperature20 (r : Reading) :
    (temperature20 r).toNat = r.b3.toNat % 16 * 2 ^ 16 + r.b4.toNat * 2 ^ 8 + r.b5.toNat := by
  rw [temperature20_eq_append, toNat_append_eq_add, toNat_append_eq_add, BitVec.extractLsb'_toNat,
    Nat.shiftRight_zero]
  omega

/-! ### The inverse packing (R257) -/

/-- The byte the two fractions share. -/
theorem packReading_b3 (b0 : Byte) (h t : BitVec 20) :
    (packReading b0 h t).b3 = h.extractLsb' 0 4 ++ t.extractLsb' 16 4 :=
  shifted_or_eq_append (h.extractLsb' 0 4) (t.extractLsb' 16 4)

theorem humidity20_packReading (b0 : Byte) (h t : BitVec 20) : humidity20 (packReading b0 h t) = h := by
  rw [humidity20_eq_append, packReading_b3, BitVec.extractLsb'_append_eq_left]
  exact append_extractLsb'_three 8 8 4 h

theorem temperature20_packReading (b0 : Byte) (h t : BitVec 20) : temperature20 (packReading b0 h t) = t := by
  rw [temperature20_eq_append, packReading_b3, BitVec.extractLsb'_append_eq_right]
  exact append_extractLsb'_three 4 8 8 t

/-! ### The words read -/

/-- HUM20 reads the fraction zero-extended (R250). -/
theorem toNat_memRead_hum20 (s : State) : (memRead s 0x38#8).toNat = (humidity20 s.raw).toNat :=
  BitVec.toNat_setWidth_of_le (by decide)

/-- TEMP20 reads the fraction zero-extended (R251). -/
theorem toNat_memRead_temp20 (s : State) : (memRead s 0x3C#8).toNat = (temperature20 s.raw).toNat :=
  BitVec.toNat_setWidth_of_le (by decide)

theorem humidityPercent_eq_div (h : BitVec 20) : humidityPercent h = h.toNat * 25 / 2 ^ 18 :=
  Nat.shiftRight_eq_div_pow _ _

/-- A fraction stays below 2^20, and 25 x 2^20 / 2^18 is 100. -/
theorem humidityPercent_le (h : BitVec 20) : humidityPercent h ≤ 99 := by
  have hlt := h.isLt
  rw [humidityPercent_eq_div]
  omega

/-- HUM_PCT reads the percentage itself: 32 bits hold it (R252, R255). -/
theorem toNat_memRead_humPct (s : State) : (memRead s 0x40#8).toNat = humidityPercent (humidity20 s.raw) := by
  have hle := humidityPercent_le (humidity20 s.raw)
  exact Nat.mod_eq_of_lt (by omega)

/-! ### The statements -/

/-- Settles O54: a register reads its fraction, which is a concatenation of RAW bytes; a reading with a given fraction
is the inverse packing. -/
theorem fractionsAreUnpacked : Obligations.FractionsAreUnpacked := by
  refine ⟨fun s => ⟨?hum, ?temp⟩, fun n hn => ?every⟩
  case hum => rw [toNat_memRead_hum20, toNat_humidity20]
  case temp => rw [toNat_memRead_temp20, toNat_temperature20]
  case every =>
    have hword : (BitVec.ofNat 20 n).toNat = n := Nat.mod_eq_of_lt hn
    refine ⟨{ State.reset with raw := packReading 0#8 (BitVec.ofNat 20 n) (BitVec.ofNat 20 n) }, ?_, ?_⟩
    · rw [toNat_memRead_hum20, humidity20_packReading, hword]
    · rw [toNat_memRead_temp20, temperature20_packReading, hword]

/-- Settles O55: HUM_PCT reads the percentage without loss, and the percentage is the shift of HUM20 x 25. -/
theorem humidityPercentIsExact : Obligations.HumidityPercentIsExact := by
  intro s
  rw [toNat_memRead_humPct, toNat_memRead_hum20]
  exact ⟨humidityPercent_eq_div _, humidityPercent_le _⟩

end Sys2Proof.Machine
end

section
/-! Reset (spec/70_reset_and_hazards.md R320). -/

namespace Sys2Proof.Machine

/-! ### A reset turn -/

/-- After a reset cycle only the fields that are not the core's tell one state from another (R320; log entry 12). -/
theorem resetCycle_eq (s : State) :
    resetCycle s =
      { State.reset with
        rdata := s.rdata, host := s.host, hostDelay := s.hostDelay - 1, turns := s.turns, taken := s.taken } := rfl

/-- A settled reset turn. -/
theorem step_rst {s : State} {ts : List Turn} (h : s.turns = .rst :: ts) :
    step s = .next (resetCycle (afterTurn ts s)) := by
  rw [step, takeTurn_cons h, runTurn, afterTurn]

/-! ### What the host and the lines see -/

/-- No register reads a field that is not the core's (R31, R84). -/
theorem memRead_of_own_fields (s : State) (off : Offset) (rd : Word) (ls : List HostLine) (d : Nat) (ts : List Turn)
    (n : Nat) :
    memRead { s with rdata := rd, host := ls, hostDelay := d, turns := ts, taken := n } off = memRead s off := by
  unfold memRead
  cases regAt off with
  | none => rfl
  | some r => cases r <;> rfl

theorem onBus_of_idle {s : State} (h : s.opState = .idle) : onBus s = none := by
  rw [onBus, h]

theorem linesReleased_iff (s : State) : linesReleased s = true ↔ s.opState = .idle ∧ s.phase = .idle :=
  decide_eq_true_iff

/-- Released lines are not driven (R173). -/
theorem sclOe_of_released {s : State} (h : linesReleased s = true) : sclOe s = false :=
  if_pos h

theorem sdaOe_of_released {s : State} (h : linesReleased s = true) : sdaOe s = false :=
  if_pos h

/-! ### After a reset cycle -/

theorem memRead_resetCycle (s : State) (off : Offset) : memRead (resetCycle s) off = memRead State.reset off := by
  rw [resetCycle_eq, memRead_of_own_fields]

theorem linesReleased_resetCycle (s : State) : linesReleased (resetCycle s) = true :=
  (linesReleased_iff _).mpr ⟨rfl, rfl⟩

/-! ### The statement -/

/-- Settles O20: a reset turn is a reset cycle, whose every core field is `State.reset`'s by `resetCycle_eq`; the ports
and the register reads follow from those fields. -/
theorem resetGivesEveryFieldItsResetValue : Obligations.ResetGivesEveryFieldItsResetValue := by
  intro s ts hturn
  have hreleased := linesReleased_resetCycle (afterTurn ts s)
  refine ⟨resetCycle (afterTurn ts s), step_rst hturn, ?busy, ?done, ?ovr, ?valid, ?phase, ?upc, ?status, ?data, ?div,
    ?busyRetries, ?nackRetries, ?timeoutMs, ?err, ?attempts, ?sstat, ?raw, ?opState, ?tocnt, ?waitcnt, ?nackcnt,
    ?txhead, ?buf, ?seqkind, ?waiting, ?bus, ?scl, ?sda, ?reads⟩
  case bus => exact onBus_of_idle rfl
  case scl => exact sclOe_of_released hreleased
  case sda => exact sdaOe_of_released hreleased
  case reads => exact memRead_resetCycle _
  all_goals rw [resetCycle_eq]; rfl

end Sys2Proof.Machine
end

section
/-! Encoding a command and decoding it again (spec/30_encoding.md R110, R112, R116, R118). -/

namespace Sys2Proof.Machine

/-! ### The fields of a word as numbers -/

theorem toNat_opField (w : Word) : (opField w).toNat = w.toNat % 16 := by
  rw [opField, BitVec.extractLsb'_toNat, Nat.shiftRight_zero]

theorem toNat_ofBool_ackField (w : Word) : (BitVec.ofBool (ackField w)).toNat = w.toNat / 16 % 2 := by
  rw [ackField, BitVec.toNat_ofBool, BitVec.getLsbD, Nat.toNat_testBit]

/-- A mask of the low bits of a word is a remainder. -/
theorem toNat_and_mask (w : Word) {n : Nat} (hn : n ≤ 32) :
    (w &&& BitVec.ofNat 32 (2 ^ n - 1)).toNat = w.toNat % 2 ^ n := by
  have hpow : 2 ^ n ≤ 2 ^ 32 := Nat.pow_le_pow_right (by decide) hn
  have hpos : 0 < 2 ^ n := Nat.two_pow_pos n
  rw [BitVec.toNat_and, BitVec.toNat_ofNat, Nat.mod_eq_of_lt (by omega), Nat.and_two_pow_sub_one_eq_mod]

/-! ### The word of a command -/

/-- A command word is ACK and OP, the bits above them 0 (R118). -/
theorem toNat_encode (i : Instr) :
    (encode i).toNat = (BitVec.ofBool (ackOf i)).toNat * 16 + (opcodeOf i).toNat := by
  rw [encode, toNat_append_eq_add, toNat_append_eq_add]
  simp

/-- READ is the one command with an operand, and the one whose decoding reads ACK (R113). -/
theorem read_or_ignores_ack (i : Instr) :
    (∃ ack, i = .read ack) ∨ (ackOf i = false ∧ usedBits i = BitVec.ofNat 32 (2 ^ 4 - 1)) := by
  cases i
  case read ack => exact .inl ⟨ack, rfl⟩
  all_goals exact .inr ⟨rfl, rfl⟩

/-- Encoding what a word decodes to gives back the bits the decoding read. -/
theorem encode_decode (w : Word) : encode (decode w) = w &&& usedBits (decode w) := by
  apply BitVec.eq_of_toNat_eq
  rw [toNat_encode, opcodeOf_decode, toNat_opField]
  rcases read_or_ignores_ack (decode w) with ⟨ack, hread⟩ | ⟨hack, hused⟩
  · have hmask : usedBits (decode w) = BitVec.ofNat 32 (2 ^ 5 - 1) := by rw [hread]; rfl
    rw [hmask, toNat_and_mask w (by decide), hread, ack_of_decode_eq_read hread]
    have := toNat_ofBool_ackField w
    simp only [ackOf]
    omega
  · rw [hack, hused, toNat_and_mask w (by decide)]
    simp

/-- Every command's word decodes to it: the round trips of `Laws.RoundTrip`, constructor by constructor. -/
theorem decode_encode (i : Instr) (h : i.wellFormed = true) : decode (encode i) = i := by
  cases i with
  | nop => exact (Laws.RoundTrip.nop h).1
  | start => exact (Laws.RoundTrip.start h).1
  | addr => exact (Laws.RoundTrip.addr h).1
  | write => exact (Laws.RoundTrip.write h).1
  | read ack => exact (Laws.RoundTrip.read ack h).1
  | stop => exact (Laws.RoundTrip.stop h).1
  | reserved6 => exact (Laws.RoundTrip.reserved6 h).1
  | reserved7 => exact (Laws.RoundTrip.reserved7 h).1
  | seqStatus => exact (Laws.RoundTrip.seqStatus h).1
  | seqInit => exact (Laws.RoundTrip.seqInit h).1
  | seqMeasure => exact (Laws.RoundTrip.seqMeasure h).1
  | reservedB => exact (Laws.RoundTrip.reservedB h).1
  | reservedC => exact (Laws.RoundTrip.reservedC h).1
  | reservedD => exact (Laws.RoundTrip.reservedD h).1
  | reservedE => exact (Laws.RoundTrip.reservedE h).1
  | reservedF => exact (Laws.RoundTrip.reservedF h).1

/-! ### The statements -/

/-- Settles O1: `decode_encode` and `encode_decode`. -/
theorem decodeAndEncodeAgree : Obligations.DecodeAndEncodeAgree :=
  ⟨decode_encode, encode_decode⟩

/-- Settles O2: the row is the value of OP, which the decoder keeps and the mask 0xF selects. -/
theorem everyWordMatchesExactlyOneRow : Obligations.EveryWordMatchesExactlyOneRow := by
  intro w
  have hop := toNat_opField w
  refine ⟨(opField w).toNat, (opField w).isLt, ?_, fun m hm => ?_⟩
  · rw [opcodeOf_decode, BitVec.ofNat_toNat, BitVec.setWidth_eq]
  · have hmask : (w &&& 0x0000000F#32).toNat = w.toNat % 2 ^ 4 := toNat_and_mask w (n := 4) (by decide)
    have hrow : (BitVec.ofNat 32 m).toNat = m := Nat.mod_eq_of_lt (by omega)
    rw [← BitVec.toNat_inj, hmask, hrow, hop]
    exact eq_comm

end Sys2Proof.Machine
end

section
/-! A coherent state in two modes: `State.inv` (Safety) said as propositions, split by whether a sequence is running
(spec/10_state.md R33 to R58, spec/41_sequencer.md R203 to R220). -/

namespace Sys2Proof.Machine

/-! ### The two modes -/

/-- The timeout counter of a primitive in flight, and what a stall says of CFG (R170, R171). -/
structure TimerOk (s : State) : Prop where
  armed : ∀ p origin, s.opState = .inFlight p origin → (s.tocnt = 0#32 ↔ s.timeoutMs = 0#8)
  bounded : ∀ p origin, s.opState = .inFlight p origin → s.tocnt.toNat ≤ s.timeoutMs.toNat * Config.cyclesPerMs
  stalled : s.opState = .stalled → s.timeoutMs = 0#8

/-- No sequence is running: at most a primitive of the host is in flight or stalled (R33, R44, R51). -/
structure Resting (s : State) : Prop where
  kind : s.seqkind = .none
  upc : s.upc = 63#6
  waiting : s.waiting = false
  busy : s.busy = true ↔ s.opState ≠ .idle
  done : s.done = true → s.busy = false
  notSeq : ∀ p, s.opState ≠ .inFlight p .seq
  flight : ∀ p, s.opState = .inFlight p .host → legal p s.phase = true ∧ (p = .stop → s.phase ≠ .idle)

/-- The rows at which a SEQ_MEASURE has counted the read it is about to judge (R213, R214). -/
def countedRow (r : Row) : Bool := decide (r = 44#6 ∨ r = 45#6 ∨ r = 62#6)

/-- The running sequence of `s` may stand at row `r` in phase `ph`. The state's own `upc` and `phase` are not read, so
that a step is judged by the row and the phase it leads to. -/
structure MayStandAt (s : State) (r : Row) (ph : Phase) : Prop where
  kind : s.seqkind ≠ .none
  busy : s.busy = true
  done : s.done = false
  row : rowOfKind s.seqkind r = true
  phase : phaseAtRow r ph = true
  head : headAtRow s.seqkind r s.txhead = true
  noErr : r ≠ 62#6 → s.err = .ok
  err : r = 62#6 → s.err ≠ .ok ∧ s.err ≠ .rejected ∧ (s.err = .busyTimeout → s.seqkind = .measure)
  valid : s.seqkind = .measure → s.valid = false
  attempts : s.seqkind = .measure → s.attempts.toNat ≤ s.busyRetries.toNat + (countedRow r).toNat
  nack : s.nackcnt.toNat ≤ s.nackRetries.toNat

/-- A primitive in flight is the one the micro-op at `upc` issues, and its START has been remembered (R155, R205). -/
def issuedAtRow (s : State) (p : Prim) : Prop :=
  ∃ m, rom s.upc = some m ∧ issuedBy m p s.data = true ∧ (m = .start true → s.txhead = s.upc)

/-- A sequence is running: it stands at its row, and is idle there, waiting, stalled, or has the row's primitive in
flight (R202, R210). -/
structure Running (s : State) : Prop where
  stands : MayStandAt s s.upc s.phase
  notHost : ∀ p, s.opState ≠ .inFlight p .host
  flight : ∀ p, s.opState = .inFlight p .seq →
    s.waiting = false ∧ legal p s.phase = true ∧ (p = .stop → s.phase ≠ .idle) ∧ issuedAtRow s p
  wait : s.waiting = true → s.opState = .idle ∧
    ∃ ms, rom s.upc = some (.wait ms) ∧ 0 < s.waitcnt.toNat ∧ s.waitcnt.toNat ≤ ms * Config.cyclesPerMs

/-- `State.inv` in two modes. -/
structure Coherent (s : State) : Prop where
  attempts : s.attempts.toNat ≤ 256
  timer : TimerOk s
  mode : Resting s ∨ Running s

/-! ### The parts of `State.inv` -/

theorem timerCoherent_iff (s : State) : timerCoherent s = true ↔ TimerOk s := by
  unfold timerCoherent
  constructor
  · intro h
    refine ⟨fun p origin e => ?_, fun p origin e => ?_, fun e => ?_⟩ <;> simp_all
  · rintro ⟨harmed, hbound, hstall⟩
    cases e : s.opState with
    | idle => rfl
    | inFlight p origin => simpa using ⟨harmed p origin e, hbound p origin e⟩
    | stalled => simpa using hstall e

theorem running_eq_false_iff (s : State) : running s = false ↔ s.seqkind = .none := by
  simp [running]

theorem running_eq_true_iff (s : State) : running s = true ↔ s.seqkind ≠ .none := by
  simp [running]

/-- A running sequence is at no row 63 (R44). -/
theorem rowOfKind_upc_ne {k : SeqKind} {r : Row} (hk : k ≠ .none) (h : rowOfKind k r = true) : r ≠ 63#6 := by
  rintro rfl
  cases k
  case none => exact hk rfl
  all_goals exact absurd h (by decide)

/-- `State.inv` of a state with no sequence running. -/
theorem inv_iff_resting {s : State} (hk : s.seqkind = .none) :
    s.inv = true ↔ s.attempts.toNat ≤ 256 ∧ TimerOk s ∧ Resting s := by
  have hrun : running s = false := (running_eq_false_iff s).mpr hk
  simp only [State.inv, busyCoherent, doneCoherent, idleCoherent, rowCoherent, waitCoherent, errCoherent,
    attemptsCoherent, nackCoherent, timerCoherent_iff, hrun, hk, Bool.and_eq_true]
  constructor
  · rintro ⟨⟨⟨⟨⟨⟨⟨⟨⟨hbusy, hdone⟩, hidle⟩, -⟩, hflight⟩, -⟩, -⟩, hatt⟩, -⟩, htimer⟩
    refine ⟨by simpa using hatt.1, htimer, hk, by simpa using hidle.1, by simpa using hidle.2, ?_, ?_, ?_, ?_⟩
    · simpa using Bool.eq_iff_iff.mp (beq_iff_eq.mp hbusy)
    · simpa [imp_iff_not_or] using hdone
    · intro p e
      simp [flightCoherent, e, hrun] at hflight
    · intro p e
      simpa [flightCoherent, e, hrun, imp_iff_not_or] using hflight
  · rintro ⟨hatt, htimer, hrest⟩
    have hflight : flightCoherent s = true := by
      unfold flightCoherent
      split
      · next p e => simpa [hrun, imp_iff_not_or] using hrest.flight p e
      · next p e => exact absurd e (hrest.notSeq p)
      · rfl
      · rfl
    have hbusy : s.busy = decide (s.opState ≠ .idle) := Bool.eq_iff_iff.mpr (by simpa using hrest.busy)
    have hdone : s.done = true → s.busy = false := hrest.done
    simp [hatt, htimer, hflight, hrest.upc, hrest.waiting, ← hbusy]
    simpa [imp_iff_not_or] using hdone

theorem issuedAtRow_of_rom {s : State} {m : MicroOp} (h : rom s.upc = some m) (p : Prim) :
    issuedAtRow s p ↔ issuedBy m p s.data = true ∧ (m = .start true → s.txhead = s.upc) := by
  simp [issuedAtRow, h]

/-- `flightCoherent` of a state with a sequence running. -/
theorem flightCoherent_iff_running {s : State} (hrun : running s = true) :
    flightCoherent s = true ↔ (∀ p, s.opState ≠ .inFlight p .host) ∧ ∀ p, s.opState = .inFlight p .seq →
      s.waiting = false ∧ legal p s.phase = true ∧ (p = .stop → s.phase ≠ .idle) ∧ issuedAtRow s p := by
  unfold flightCoherent
  split
  · next p e => simp [e, hrun]
  · next p e =>
    split
    · next h =>
      simp only [e, hrun, issuedAtRow_of_rom h]
      cases p <;> simp [issuedBy, and_assoc]
    · next m hm h =>
      have hstart : m ≠ .start true := hm
      simp [e, hrun, issuedAtRow_of_rom h, hstart, ← imp_iff_not_or, and_assoc]
    · next h => simp [e, issuedAtRow, h]
  · next e => simp [e]
  · next e => simp [e]

theorem waitCoherent_iff (s : State) :
    waitCoherent s = true ↔ (s.waiting = true → s.opState = .idle ∧
      ∃ ms, rom s.upc = some (.wait ms) ∧ 0 < s.waitcnt.toNat ∧ s.waitcnt.toNat ≤ ms * Config.cyclesPerMs) := by
  unfold waitCoherent
  split
  · next ms h => simp [h, imp_iff_not_or]
  · next hne =>
    have : ∀ ms, rom s.upc ≠ some (.wait ms) := fun ms e => hne ms e
    simp [this]

theorem errCoherent_iff_running {s : State} (hrun : running s = true) :
    errCoherent s = true ↔ (s.upc ≠ 62#6 → s.err = .ok) ∧
      (s.upc = 62#6 → s.err ≠ .ok ∧ s.err ≠ .rejected ∧ (s.err = .busyTimeout → s.seqkind = .measure)) := by
  unfold errCoherent
  by_cases h : s.upc = 62#6 <;> simp [h, hrun, imp_iff_not_or]

theorem attemptsCoherent_iff (s : State) :
    attemptsCoherent s = true ↔ s.attempts.toNat ≤ 256 ∧ (s.seqkind = .measure → s.valid = false) ∧
      (s.seqkind = .measure → s.attempts.toNat ≤ s.busyRetries.toNat + (countedRow s.upc).toNat) := by
  unfold attemptsCoherent countedRow
  by_cases h : s.upc = 44#6 ∨ s.upc = 45#6 ∨ s.upc = 62#6 <;> by_cases hk : s.seqkind = .measure <;> simp [h, hk]

/-- `State.inv` of a state with a sequence running. -/
theorem inv_iff_running {s : State} (hk : s.seqkind ≠ .none) :
    s.inv = true ↔ s.attempts.toNat ≤ 256 ∧ TimerOk s ∧ Running s := by
  have hrun : running s = true := (running_eq_true_iff s).mpr hk
  simp only [State.inv, Bool.and_eq_true, flightCoherent_iff_running hrun, waitCoherent_iff,
    errCoherent_iff_running hrun, attemptsCoherent_iff, timerCoherent_iff]
  simp only [busyCoherent, doneCoherent, idleCoherent, rowCoherent, nackCoherent, hrun]
  constructor
  · rintro ⟨⟨⟨⟨⟨⟨⟨⟨⟨hbusy, hdone⟩, -⟩, hrow⟩, hflight⟩, hwait⟩, herr⟩, hatt⟩, hnack⟩, htimer⟩
    have hbusy : s.busy = true := by simpa using hbusy
    obtain ⟨⟨hrow, hphase⟩, hhead⟩ : (rowOfKind s.seqkind s.upc = true ∧ phaseAtRow s.upc s.phase = true)
        ∧ headAtRow s.seqkind s.upc s.txhead = true := by simpa using hrow
    refine ⟨hatt.1, htimer, ?_, hflight.1, hflight.2, hwait⟩
    exact { kind := hk, busy := hbusy, done := by simpa [hbusy] using hdone, row := hrow, phase := hphase
            head := hhead, noErr := herr.1, err := herr.2, valid := hatt.2.1, attempts := hatt.2.2
            nack := by simpa using hnack }
  · rintro ⟨hatt, htimer, hstands, hnotHost, hflight, hwait⟩
    have hupc := rowOfKind_upc_ne hk hstands.row
    refine ⟨⟨⟨⟨⟨⟨⟨⟨⟨?_, ?_⟩, ?_⟩, ?_⟩, hnotHost, hflight⟩, hwait⟩, hstands.noErr, hstands.err⟩, hatt, hstands.valid,
      hstands.attempts⟩, ?_⟩, htimer⟩
    · simp [hstands.busy]
    · simp [hstands.done]
    · simp [hupc]
    · simp [hstands.row, hstands.phase, hstands.head]
    · simpa using hstands.nack

/-- The two modes exclude each other and are all of `State.inv`. -/
theorem inv_iff_coherent (s : State) : s.inv = true ↔ Coherent s := by
  by_cases hk : s.seqkind = .none
  · rw [inv_iff_resting hk]
    exact ⟨fun ⟨hatt, htimer, hrest⟩ => ⟨hatt, htimer, .inl hrest⟩,
      fun ⟨hatt, htimer, hmode⟩ => ⟨hatt, htimer, hmode.resolve_right fun hrun => hrun.stands.kind hk⟩⟩
  · rw [inv_iff_running hk]
    exact ⟨fun ⟨hatt, htimer, hrun⟩ => ⟨hatt, htimer, .inr hrun⟩,
      fun ⟨hatt, htimer, hmode⟩ => ⟨hatt, htimer, hmode.resolve_left fun hrest => hk hrest.kind⟩⟩

end Sys2Proof.Machine
end

section
/-! The rows of the micro-program and the statuses their primitives end with: what `phaseAtRow`, `rowOfKind` and
`headAtRow` (Safety) say of the row a step leads to (spec/41_sequencer.md R203 to R220, spec/40_i2c_master.md R158). -/

namespace Sys2Proof.Machine

/-! ### Facts of every row -/

/-- A test that holds of every row of the ROM, evaluated row by row, holds of the micro-op at a row. -/
theorem of_rom {P : Row → MicroOp → Bool} (h : ∀ r, (rom r).all (P r) = true) {r : Row} {m : MicroOp}
    (hm : rom r = some m) : P r m = true := by
  have := h r
  rwa [hm] at this

/-- The micro-ops after which a sequence goes on to the next row. -/
def goesOn (m : MicroOp) : Bool :=
  match m with
  | .start _ | .addr _ | .write _ | .read _ _ | .stop | .wait _ | .setstat | .brcal _ | .commit | .brbusy _ => true
  | .endSeq | .retry | .abort => false

/-- The phases a micro-op is reached in (R205 to R220). -/
def phaseForOp (m : MicroOp) (ph : Phase) : Bool :=
  match m with
  | .start _ => decide (ph = .idle ∨ ph = .tx)
  | .addr _ => decide (ph = .started)
  | .write _ => decide (ph = .tx)
  | .read _ _ => decide (ph = .rx)
  | .stop => decide (ph ≠ .idle)
  | .wait _ | .setstat | .brcal _ | .commit | .brbusy _ | .endSeq => decide (ph = .idle)
  | .retry => decide (ph = .tx ∨ ph = .rxend)
  | .abort => decide (ph = .idle ∨ ph = .tx ∨ ph = .rxend)

theorem phaseForOp_of_row {r : Row} {m : MicroOp} {ph : Phase} (hm : rom r = some m) (h : phaseAtRow r ph = true) :
    phaseForOp m ph = true := by
  have key := of_rom (P := fun r m => !phaseAtRow r ph || phaseForOp m ph) (by cases ph <;> decide) hm
  simpa [h] using key

theorem rowOfKind_next {k : SeqKind} {r : Row} {m : MicroOp} (hm : rom r = some m) (hgo : goesOn m = true)
    (h : rowOfKind k r = true) : rowOfKind k (r + 1#6) = true := by
  have key := of_rom (P := fun r m => !(goesOn m && rowOfKind k r) || rowOfKind k (r + 1#6))
    (by cases k <;> decide) hm
  simpa [h, hgo] using key

/-- A row between two transactions leads to one, or to the START that opens the next (R210 to R214). -/
theorem phaseAtRow_next_of_idle {r : Row} {m : MicroOp} (hm : rom r = some m) (hgo : goesOn m = true)
    (hidle : phaseForOp m .idle = true) (hstart : ∀ head, m ≠ .start head) : phaseAtRow (r + 1#6) .idle = true := by
  have key := of_rom (P := fun r m => !(goesOn m && phaseForOp m .idle) || decide (m = .start true ∨ m = .start false)
    || phaseAtRow (r + 1#6) .idle) (by decide) hm
  simpa [hgo, hidle, hstart] using key

/-! ### The START that opened the transaction of a row -/

/-- The row of the START that opened the transaction a ROM row is in; none between transactions (R205). -/
def openedAt (r : Row) : Option Row :=
  match r.toNat with
  | 1 | 2 | 3 | 4 | 5 | 6 => some 0#6
  | 11 | 12 | 13 | 14 | 15 | 16 => some 10#6
  | 20 | 21 | 22 | 23 | 24 => some 19#6
  | 28 | 29 | 30 | 31 | 32 => some 27#6
  | 35 | 36 | 37 | 38 | 39 | 40 | 41 | 42 => some 34#6
  | _ => none

theorem headAtRow_iff_openedAt {k : SeqKind} {r head : Row} (hr : r ≠ 61#6) :
    headAtRow k r head = true ↔ ∀ h, openedAt r = some h → head = h := by
  have hr : r.toNat ≠ 61 := fun e => hr (BitVec.eq_of_toNat_eq e)
  unfold headAtRow openedAt
  split <;> simp_all

/-- A row's successor is in the same transaction, in the one the row opens, or between transactions. -/
theorem openedAt_next {r h : Row} {m : MicroOp} (hm : rom r = some m) (hnext : openedAt (r + 1#6) = some h) :
    openedAt r = some h ∨ (m = .start true ∧ h = r) := by
  have key := of_rom (P := fun r m => decide (openedAt (r + 1#6) = none ∨ openedAt (r + 1#6) = openedAt r
    ∨ (m = .start true ∧ openedAt (r + 1#6) = some r))) (by decide) hm
  simp only [hnext, decide_eq_true_eq, reduceCtorEq, Option.some.injEq, false_or] at key
  exact key.imp_left Eq.symm

/-- RETRY is not entered by going on to the next row (R219). -/
theorem next_ne_retry {r : Row} {m : MicroOp} (hm : rom r = some m) : r + 1#6 ≠ 61#6 := by
  have key := of_rom (P := fun r _ => decide (r + 1#6 ≠ 61#6)) (by decide) hm
  simpa using key

theorem headAtRow_next {k : SeqKind} {r head : Row} {m : MicroOp} (hm : rom r = some m) (hr : r ≠ 61#6)
    (hstart : m = .start true → head = r) (h : headAtRow k r head = true) : headAtRow k (r + 1#6) head = true := by
  refine (headAtRow_iff_openedAt (next_ne_retry hm)).mpr fun x hx => ?_
  rcases openedAt_next hm hx with hsame | ⟨hopens, rfl⟩
  · exact (headAtRow_iff_openedAt hr).mp h x hsame
  · exact hstart hopens

/-- The address of a transaction stands in it, and RETRY may restart that transaction in its sequence (R218, R219). -/
theorem headAtRow_retry_of_addr {k : SeqKind} {r head : Row} {a : Byte} (hm : rom r = some (.addr a))
    (hk : k ≠ .none) (hrow : rowOfKind k r = true) (h : headAtRow k r head = true) : headAtRow k 61#6 head = true := by
  have hr : r ≠ 61#6 := fun e => by rw [rom_eq_retry.mpr e] at hm; cases hm
  have key := of_rom (P := fun r m => decide (k = .none) || !rowOfKind k r
    || (match m with | .addr _ => (openedAt r).any (headAtRow k 61#6) | _ => true)) (by cases k <;> decide) hm
  obtain ⟨x, hx, hhead⟩ : ∃ x, openedAt r = some x ∧ headAtRow k 61#6 x = true := by
    simpa [hk, hrow, Option.any_eq_true] using key
  rwa [(headAtRow_iff_openedAt hr).mp h x hx]

/-- At RETRY the row to restart at is reached in IDLE and is one of the sequence's (R218). -/
theorem head_of_retry {k : SeqKind} {head : Row} (h : headAtRow k 61#6 head = true) :
    rowOfKind k head = true ∧ phaseAtRow head .idle = true ∧ headAtRow k head head = true ∧ head ≠ 62#6
    ∧ head ≠ 61#6 := by
  have hcases : (k = .status ∧ head = 0#6) ∨ (k = .init ∧ (head = 10#6 ∨ head = 19#6))
      ∨ (k = .measure ∧ (head = 27#6 ∨ head = 34#6)) := by
    cases k <;> simp [headAtRow] at h <;> simp [h]
  rcases hcases with ⟨rfl, rfl⟩ | ⟨rfl, rfl | rfl⟩ | ⟨rfl, rfl | rfl⟩ <;> decide

/-! ### The statuses -/

/-- The phase a completion leaves, by the STATUS it leaves (R158). -/
def phaseOfStatus (st : BusStatus) : Phase :=
  match st with
  | .startSent | .restartSent => .started
  | .slawAck | .slawNack | .dataTxAck | .dataTxNack => .tx
  | .slarAck | .dataRxAck => .rx
  | .slarNack | .dataRxNack => .rxend
  | .arbLost | .idle | .busTimeout | .illegal => .idle

/-- The statuses a primitive may end with; `dir` is DATA[0] (R158). -/
def mayEndWith (p : Prim) (dir : Bool) (st : BusStatus) : Bool :=
  match p, st with
  | _, .busTimeout => true
  | .start, .arbLost | .addr, .arbLost | .write, .arbLost | .read _, .arbLost => true
  | .start, .startSent | .start, .restartSent => true
  | .addr, .slawAck | .addr, .slawNack => !dir
  | .addr, .slarAck | .addr, .slarNack => dir
  | .write, .dataTxAck | .write, .dataTxNack => true
  | .read ack, .dataRxAck => ack
  | .read ack, .dataRxNack => !ack
  | .stop, .idle => true
  | _, _ => false

/-- What a row of the completion table says, whichever row it is (R158). -/
structure RowFits (p : Prim) (dir : Bool) (o : BusOutcome) (c : Completion) : Prop where
  phase : c.phase = phaseOfStatus c.status
  status : mayEndWith p dir c.status = true
  timeout : c.status = .busTimeout ↔ o = .timeout
  received : ∀ b, c.received = some b → (∃ ack, p = .read ack) ∧ o = .byte b

theorem completionRow_fits {p : Prim} {ph : Phase} {dir : Bool} {o : BusOutcome} {c : Completion}
    (h : completionRow p ph dir o = some c) : RowFits p dir o c := by
  unfold completionRow at h
  split at h
  case h_7 | h_8 => cases h; cases dir <;> exact ⟨rfl, rfl, by simp, by simp⟩
  case h_13 ack b => cases h; cases ack <;> exact ⟨rfl, rfl, by simp, by simp⟩
  case h_19 => cases h
  case h_1 => cases h; exact ⟨rfl, by cases p <;> rfl, by simp, by simp⟩
  all_goals cases h; exact ⟨rfl, rfl, by simp, by simp⟩

/-- Every outcome R157 admits, but a stall, has its row in R158. -/
theorem completionRow_of_admits {single : Bool} {p : Prim} {ph : Phase} {armed : Bool} {o : BusOutcome}
    (h : admits single p ph armed o = true) (hs : o ≠ .stall) (dir : Bool) :
    ∃ c, completionRow p ph dir o = some c := by
  unfold admits at h
  split at h
  case h_1 => exact ⟨_, completionRow_timeout p ph dir⟩
  case h_2 => exact absurd rfl hs
  case h_20 => cases h
  all_goals exact ⟨_, rfl⟩

/-- A primitive ends with the status its row expects, or with one of the five R204 names, an address NACK among them
only at an ADDR row. -/
theorem status_of_issued {m : MicroOp} {p : Prim} {data : Byte} {st : BusStatus} (hi : issuedBy m p data = true)
    (hs : mayEndWith p (dirRead data) st = true) (hr : m ≠ .retry) (ha : m ≠ .abort) :
    expectedStatus m st = true ∨ ((st = .slawNack ∨ st = .slarNack) ∧ ∃ a, m = .addr a)
      ∨ st = .dataTxNack ∨ st = .arbLost ∨ st = .busTimeout := by
  unfold issuedBy at hi
  split at hi
  case h_2 a =>
    obtain rfl : data = a := by simpa using hi
    cases st <;> simp_all [mayEndWith, expectedStatus]
  case h_4 k ack ack' =>
    obtain rfl : ack = ack' := by simpa using hi
    cases st <;> simp_all [mayEndWith, expectedStatus]
  case h_6 => exact absurd rfl hr
  case h_7 => exact absurd rfl ha
  case h_8 => cases hi
  all_goals cases st <;> simp_all [mayEndWith, expectedStatus]

/-- A STOP ends with the bus idle or with a timeout (R158). -/
theorem status_of_stop {dir : Bool} {st : BusStatus} (hs : mayEndWith .stop dir st = true) :
    st = .idle ∨ st = .busTimeout := by
  cases st <;> simp_all [mayEndWith]

/-- On the expected status the next row is entered in the phase it is for. -/
theorem phaseAtRow_next_of_expected {r : Row} {m : MicroOp} {st : BusStatus} (hm : rom r = some m)
    (h : expectedStatus m st = true) : phaseAtRow (r + 1#6) (phaseOfStatus st) = true := by
  have key := of_rom (P := fun r m => !expectedStatus m st || phaseAtRow (r + 1#6) (phaseOfStatus st))
    (by cases st <;> decide) hm
  simpa [h] using key

/-- Only a micro-op that goes on expects a status. -/
theorem goesOn_of_expected {m : MicroOp} {st : BusStatus} (h : expectedStatus m st = true) : goesOn m = true := by
  cases m
  case endSeq | retry | abort => cases st <;> cases h
  all_goals rfl

end Sys2Proof.Machine
end

section
/-! Every step keeps the coherence of the state: a running sequence from row to row (spec/41_sequencer.md R203 to R221),
the primitive in flight (spec/40_i2c_master.md R152 to R171), and the host's commands and writes. -/

namespace Sys2Proof.Machine

/-! ### Where a running sequence may stand next -/

theorem MayStandAt.next {s : State} {r : Row} {ph ph' : Phase} {m : MicroOp} (h : MayStandAt s r ph)
    (hm : rom r = some m) (hgo : goesOn m = true) (hstart : m = .start true → s.txhead = r)
    (hph : phaseAtRow (r + 1#6) ph' = true) : MayStandAt s (r + 1#6) ph' := by
  have hretry : r ≠ 61#6 := fun e => by rw [rom_eq_retry.mpr e] at hm; cases hm; cases hgo
  have habort : r ≠ 62#6 := fun e => by rw [rom_eq_abort.mpr e] at hm; cases hm; cases hgo
  have hcount : (countedRow r).toNat ≤ (countedRow (r + 1#6)).toNat := by
    have key := of_rom (P := fun r m => !goesOn m || decide ((countedRow r).toNat ≤ (countedRow (r + 1#6)).toNat))
      (by decide) hm
    simpa [hgo] using key
  have hnotAbort : r + 1#6 ≠ 62#6 := fun e => hretry (by bv_omega)
  exact { h with
    row := rowOfKind_next hm hgo h.row
    phase := hph
    head := headAtRow_next hm hretry hstart h.head
    noErr := fun _ => h.noErr habort
    err := fun e => absurd e hnotAbort
    attempts := fun hk => (h.attempts hk).trans (Nat.add_le_add_left hcount _) }

/-- Between transactions the next row is entered in IDLE too. -/
theorem MayStandAt.next_idle {s : State} {r : Row} {ph : Phase} {m : MicroOp} (h : MayStandAt s r ph)
    (hm : rom r = some m) (hgo : goesOn m = true) (hidle : ∀ ph, phaseForOp m ph = decide (ph = .idle)) :
    ph = .idle ∧ MayStandAt s (r + 1#6) ph := by
  have hph : ph = .idle := by simpa [hidle] using phaseForOp_of_row hm h.phase
  subst hph
  have hstart : ∀ head, m ≠ .start head := by rintro head rfl; simpa [phaseForOp] using hidle .tx
  exact ⟨rfl, h.next hm hgo (fun e => absurd e (hstart true))
    (phaseAtRow_next_of_idle hm hgo (by simp [hidle]) hstart)⟩

/-- ABORT is entered with the first error, from any other row (R204, R217). -/
theorem MayStandAt.abort {s : State} {r : Row} {ph ph' : Phase} (h : MayStandAt s r ph) (hr : r ≠ 62#6) {e : ErrKind}
    (he : e ≠ .ok ∧ e ≠ .rejected ∧ (e = .busyTimeout → s.seqkind = .measure))
    (hph : ph' = .idle ∨ ph' = .tx ∨ ph' = .rxend) : MayStandAt (setErr e s) 62#6 ph' where
  kind := by simpa using h.kind
  busy := by simpa using h.busy
  done := by simpa using h.done
  row := by
    rw [setErr_seqkind]
    rcases hk : s.seqkind
    case none => exact absurd hk h.kind
    all_goals rfl
  phase := by rcases hph with rfl | rfl | rfl <;> rfl
  head := rfl
  noErr := fun hne => absurd rfl hne
  err := fun _ => by simpa [h.noErr hr] using he
  valid := by simpa using h.valid
  attempts := fun hk => by
    have := h.attempts (by simpa using hk)
    have := Bool.toNat_le (countedRow r)
    have : (countedRow 62#6).toNat = 1 := rfl
    simp only [setErr_attempts, setErr_busyRetries]
    omega
  nack := by simpa using h.nack

/-- RETRY is entered from an ADDR row, with one restart of the budget taken (R219). -/
theorem MayStandAt.retry {s : State} {r : Row} {ph ph' : Phase} {a : Byte} (h : MayStandAt s r ph)
    (hm : rom r = some (.addr a)) (hn : s.nackcnt.toNat < s.nackRetries.toNat) (hph : ph' = .tx ∨ ph' = .rxend) :
    MayStandAt { s with nackcnt := s.nackcnt + 1#4 } 61#6 ph' :=
  have hnotAbort : r ≠ 62#6 := fun e => by rw [rom_eq_abort.mpr e] at hm; cases hm
  { kind := h.kind, busy := h.busy, done := h.done, valid := h.valid
    row := by
      rcases hk : s.seqkind
      case none => exact absurd hk h.kind
      all_goals rfl
    phase := by rcases hph with rfl | rfl <;> rfl
    head := headAtRow_retry_of_addr hm h.kind h.row h.head
    noErr := fun _ => h.noErr hnotAbort
    err := fun e => absurd e (by decide)
    attempts := fun hk => by
      have hcount : countedRow r = false := by
        have key := of_rom (P := fun r m => match m with | .addr _ => !countedRow r | _ => true) (by decide) hm
        simpa using key
      have := h.attempts hk
      rw [hcount] at this
      exact this
    nack := by
      have := s.nackRetries.isLt
      have : (s.nackcnt + 1#4).toNat = s.nackcnt.toNat + 1 := by
        rw [BitVec.toNat_add, BitVec.toNat_ofNat]
        omega
      show (s.nackcnt + 1#4).toNat ≤ s.nackRetries.toNat
      omega }

/-- RETRY restarts the transaction at the row that opened it (R218). -/
theorem MayStandAt.restart {s : State} {ph : Phase} (h : MayStandAt s 61#6 ph) : MayStandAt s s.txhead .idle := by
  obtain ⟨hrow, hphase, hhead, hnotAbort, -⟩ := head_of_retry h.head
  exact { h with
    row := hrow
    phase := hphase
    head := hhead
    noErr := fun _ => h.noErr (by decide)
    err := fun e => absurd e hnotAbort
    attempts := fun hk => (h.attempts hk).trans (Nat.add_le_add_left (Nat.zero_le _) _) }

/-! ### The core at a row -/

theorem TimerOk.of_idle {s : State} (h : s.opState = .idle) : TimerOk s :=
  ⟨fun p origin e => by simp [h] at e, fun p origin e => by simp [h] at e, fun e => by simp [h] at e⟩

/-- A primitive just issued or accepted has its counter loaded. -/
theorem TimerOk.of_loaded {s : State} (ht : s.tocnt = timeoutLoad s) (hs : s.opState ≠ .stalled) : TimerOk s where
  armed _ _ _ := by rw [ht]; exact timeoutLoad_eq_zero s
  bounded _ _ _ := by rw [ht, timeoutLoad_toNat]
  stalled e := absurd e hs

theorem Running.of_idle {s : State} (h : MayStandAt s s.upc s.phase) (ho : s.opState = .idle)
    (hw : s.waiting = false) : Running s where
  stands := h
  notHost p e := by simp [ho] at e
  flight p e := by simp [ho] at e
  wait e := by simp [hw] at e

theorem Coherent.of_idle_at_row {s : State} (h : MayStandAt s s.upc s.phase) (hatt : s.attempts.toNat ≤ 256)
    (ho : s.opState = .idle) (hw : s.waiting = false) : Coherent s :=
  ⟨hatt, .of_idle ho, .inr (.of_idle h ho hw)⟩

/-- `Issue(p)` at a row, where `p` is legal. -/
theorem Coherent.of_issue {s : State} {p : Prim} (h : MayStandAt s s.upc s.phase) (hatt : s.attempts.toNat ≤ 256)
    (hw : s.waiting = false) (hl : legal p s.phase = true) (hs : p = .stop → s.phase ≠ .idle)
    (hi : issuedAtRow s p) : Coherent (issue p s) where
  attempts := hatt
  timer := .of_loaded rfl (by simp)
  mode := .inr
    { stands := { h with }
      notHost := fun q e => by simp at e
      flight := fun q e => by
        obtain rfl : p = q := by simpa using e
        exact ⟨hw, hl, hs, hi⟩
      wait := fun e => absurd (hw.symm.trans e) (by decide) }

/-- `Finish()` leaves no sequence running (R221). -/
theorem Coherent.of_finish {s : State} (hatt : s.attempts.toNat ≤ 256) (ho : s.opState = .idle)
    (hw : s.waiting = false) : Coherent (finish s) where
  attempts := hatt
  timer := .of_idle ho
  mode := .inl
    { kind := rfl, upc := rfl, waiting := hw, busy := by simp [ho], done := fun _ => rfl
      notSeq := fun p e => by simp [ho] at e
      flight := fun p e => by simp [ho] at e }

/-- `err(e); upc <- 62` at a row of a running sequence (R204, R217). -/
theorem Coherent.of_abort {s : State} {r : Row} {ph : Phase} (h : MayStandAt s r ph) (hr : r ≠ 62#6)
    (hatt : s.attempts.toNat ≤ 256) (ho : s.opState = .idle) (hw : s.waiting = false) {e : ErrKind}
    (he : e ≠ .ok ∧ e ≠ .rejected ∧ (e = .busyTimeout → s.seqkind = .measure))
    (hph : s.phase = .idle ∨ s.phase = .tx ∨ s.phase = .rxend) : Coherent (abortWith e s) := by
  have habort : MayStandAt (setErr e s) 62#6 (setErr e s).phase := h.abort hr he (by simpa using hph)
  rw [abortWith_eq]
  exact .of_idle_at_row { habort with } (by simpa using hatt) (by simpa using ho) (by simpa using hw)

/-! ### The rows that branch -/

theorem eq_of_rom_commit {r : Row} (hm : rom r = some .commit) : r = 43#6 := by
  have key := of_rom (P := fun r m => decide (m = .commit → r = 43#6)) (by decide) hm
  simpa using key

theorem eq_of_rom_brcal {r t : Row} (hm : rom r = some (.brcal t)) : r = 18#6 ∧ t = 26#6 := by
  have key := of_rom (P := fun r m => match m with | .brcal t => decide (r = 18#6 ∧ t = 26#6) | _ => true)
    (by decide) hm
  simpa using key

theorem eq_of_rom_brbusy {r t : Row} (hm : rom r = some (.brbusy t)) : r = 44#6 ∧ t = 33#6 := by
  have key := of_rom (P := fun r m => match m with | .brbusy t => decide (r = 44#6 ∧ t = 33#6) | _ => true)
    (by decide) hm
  simpa using key

theorem wait_range {r : Row} {ms : Nat} (hm : rom r = some (.wait ms)) : 0 < ms ∧ ms ≤ 255 := by
  have key := of_rom (P := fun r m => match m with | .wait ms => decide (0 < ms ∧ ms ≤ 255) | _ => true)
    (by decide) hm
  simpa using key

/-- The rows 43 and 44 are of SEQ_MEASURE. -/
theorem measure_of_row {k : SeqKind} {r : Row} (hr : r = 43#6 ∨ r = 44#6) (h : rowOfKind k r = true) :
    k = .measure := by
  rcases hr with rfl | rfl <;> cases k
  case inl.measure | inr.measure => rfl
  all_goals exact absurd h (by decide)

/-- BRCAL's target is a row of SEQ_INIT, between transactions (R212). -/
theorem MayStandAt.brcal {s : State} {r t : Row} {ph : Phase} (h : MayStandAt s r ph)
    (hm : rom r = some (.brcal t)) : MayStandAt s t ph := by
  obtain ⟨rfl, rfl⟩ := eq_of_rom_brcal hm
  have hrow : rowOfKind s.seqkind 26#6 = true := by
    have hrow := h.row
    rcases hk : s.seqkind <;> rw [hk] at hrow <;> revert hrow <;> decide
  exact { h with
    row := hrow
    phase := by simpa [phaseAtRow] using h.phase
    head := rfl
    noErr := fun _ => h.noErr (by decide)
    err := fun e => absurd e (by decide)
    attempts := h.attempts }

/-- BRBUSY's target is the wait before the read of SEQ_MEASURE, while the budget lasts (R214). -/
theorem MayStandAt.brbusy {s : State} {r t : Row} {ph : Phase} (h : MayStandAt s r ph)
    (hm : rom r = some (.brbusy t)) (ha : s.attempts.toNat ≤ s.busyRetries.toNat) : MayStandAt s t ph := by
  obtain ⟨rfl, rfl⟩ := eq_of_rom_brbusy hm
  have hkind := measure_of_row (.inr rfl) h.row
  exact { h with
    row := by rw [hkind]; rfl
    phase := by simpa [phaseAtRow] using h.phase
    head := rfl
    noErr := fun _ => h.noErr (by decide)
    err := fun e => absurd e (by decide)
    attempts := fun _ => ha }

/-- COMMIT counts the read: at its row the budget has room for one more, and nine bits hold the count (R46, R213). -/
theorem MayStandAt.commit_count {s : State} {ph : Phase} (h : MayStandAt s s.upc ph) (hm : rom s.upc = some .commit) :
    (s.attempts + 1#9).toNat = s.attempts.toNat + 1 ∧ s.attempts.toNat ≤ s.busyRetries.toNat := by
  have hrow := eq_of_rom_commit hm
  have hle := h.attempts (measure_of_row (.inl hrow) h.row)
  rw [hrow] at hle
  have hle : s.attempts.toNat ≤ s.busyRetries.toNat := hle
  have := s.busyRetries.isLt
  refine ⟨?_, hle⟩
  rw [BitVec.toNat_add, BitVec.toNat_ofNat]
  omega

/-! ### The sequencer's step -/

/-- A micro-op of a running sequence leads to a coherent state (R205 to R220). -/
theorem microStep_coherent {s t : State} {m : MicroOp} (h : MayStandAt s s.upc s.phase)
    (hatt : s.attempts.toNat ≤ 256) (ho : s.opState = .idle) (hw : s.waiting = false) (hm : rom s.upc = some m)
    (hstep : MicroStep m s t) : Coherent t := by
  have hphase := phaseForOp_of_row hm h.phase
  cases hstep with
  | start head e =>
    subst e
    have hl : legal .start s.phase = true := by
      rw [legal_start_iff]
      simp only [phaseForOp, decide_eq_true_eq] at hphase
      exact hphase.imp_right .inl
    have hopens : headAtRow s.seqkind s.upc (if head then s.upc else s.txhead) = true := by
      cases head with
      | false => exact h.head
      | true =>
        have hr : s.upc ≠ 61#6 := fun e => by rw [rom_eq_retry.mpr e] at hm; cases hm
        have hout := of_rom (P := fun r m => decide (m = .start true → openedAt r = none)) (by decide) hm
        exact (headAtRow_iff_openedAt hr).mpr fun x hx => by simp [hx] at hout
    exact .of_issue { h with head := hopens } hatt hw hl (by simp) ⟨_, hm, rfl, by rintro ⟨⟩; rfl⟩
  | addr a e =>
    subst e
    exact .of_issue { h with } hatt hw ((legal_addr_iff _).mpr (by simpa [phaseForOp] using hphase)) (by simp)
      ⟨_, hm, by simp [issuedBy], by simp⟩
  | write b e =>
    subst e
    exact .of_issue { h with } hatt hw ((legal_write_iff _).mpr (by simpa [phaseForOp] using hphase)) (by simp)
      ⟨_, hm, by simp [issuedBy], by simp⟩
  | read k ack e =>
    subst e
    exact .of_issue h hatt hw ((legal_read_iff ack _).mpr (by simpa [phaseForOp] using hphase)) (by simp)
      ⟨_, hm, by simp [issuedBy], by simp⟩
  | stop e hp =>
    refine .of_issue h hatt hw rfl (fun _ => hp) ⟨_, hm, ?_, ?_⟩
    · rcases e with rfl | rfl | rfl <;> rfl
    · rcases e with rfl | rfl | rfl <;> simp
  | idleStop e hp =>
    subst e
    exact absurd hp (by simpa [phaseForOp] using hphase)
  | wait ms e =>
    subst e
    obtain ⟨hpos, hms⟩ := wait_range hm
    refine ⟨hatt, .of_idle ho, .inr ?_⟩
    exact
      { stands := { h with }
        notHost := fun p e => by simp [ho] at e
        flight := fun p e => by simp [ho] at e
        wait := fun _ => ⟨ho, ms, hm, by
          show 0 < (waitLoad ms).toNat ∧ (waitLoad ms).toNat ≤ _
          rw [waitLoad_toNat hms]
          exact ⟨Nat.mul_pos hpos cyclesPerMs_pos, le_rfl⟩⟩ }
  | setstat e =>
    subst e
    obtain ⟨-, hnext⟩ := h.next_idle hm rfl fun _ => rfl
    exact .of_idle_at_row { hnext with } hatt ho hw
  | commit e =>
    subst e
    obtain ⟨-, hnext⟩ := h.next_idle hm rfl fun _ => rfl
    obtain ⟨hcount, hle⟩ := h.commit_count hm
    have := s.busyRetries.isLt
    refine .of_idle_at_row { hnext with attempts := fun _ => ?_ } ?_ ho hw
    · have hslack : (countedRow (s.upc + 1#6)).toNat = 1 := by rw [eq_of_rom_commit hm]; rfl
      show (s.attempts + 1#9).toNat ≤ s.busyRetries.toNat + (countedRow (s.upc + 1#6)).toNat
      omega
    · show (s.attempts + 1#9).toNat ≤ 256
      omega
  | goto r e =>
    rcases e with ⟨rfl, -⟩ | ⟨⟨r', rfl⟩, -, rfl⟩ | ⟨rfl, -, hle⟩ | ⟨⟨r', rfl⟩, -, rfl⟩ | ⟨rfl, hp, rfl⟩
    · exact .of_idle_at_row { h.brcal hm with } hatt ho hw
    · obtain ⟨-, hnext⟩ := h.next_idle hm rfl fun _ => rfl
      exact .of_idle_at_row { hnext with } hatt ho hw
    · exact .of_idle_at_row { h.brbusy hm hle with } hatt ho hw
    · obtain ⟨-, hnext⟩ := h.next_idle hm rfl fun _ => rfl
      exact .of_idle_at_row { hnext with } hatt ho hw
    · simp [phaseForOp, hp] at hphase
  | busy r e hb ha =>
    subst e
    have hrow := (eq_of_rom_brbusy hm).1
    have hkind := measure_of_row (.inr hrow) h.row
    exact .of_abort h (by rw [hrow]; decide) hatt ho hw ⟨by decide, by decide, fun _ => hkind⟩
      (.inl (by simpa [phaseForOp] using hphase))
  | finish e =>
    exact .of_finish hatt ho hw

/-! ### The status check -/

/-- What the status check of a completed primitive of a coherent sequence does: R204, R218 and R220 without the statuses
that do not occur. `s` is the state with the new STATUS, at the row's own `upc`. -/
inductive RowEnd (s : State) : State → Prop
  | next (m : MicroOp) (b : Reading) (hm : rom s.upc = some m) (he : expectedStatus m s.status = true) :
      RowEnd s { s with buf := b, upc := s.upc + 1#6 }
  | retry (a : Byte) (hm : rom s.upc = some (.addr a)) (hs : s.status = .slawNack ∨ s.status = .slarNack)
      (hn : s.nackcnt.toNat < s.nackRetries.toNat) : RowEnd s { s with nackcnt := s.nackcnt + 1#4, upc := 61#6 }
  | abort (e : ErrKind) (hr : s.upc ≠ 62#6) (he : e ≠ .ok ∧ e ≠ .rejected ∧ e ≠ .busyTimeout)
      (hp : phaseOfStatus s.status = .idle ∨ phaseOfStatus s.status = .tx ∨ phaseOfStatus s.status = .rxend) :
      RowEnd s (abortWith e s)
  | restart (hr : s.upc = 61#6) (hs : s.status = .idle) : RowEnd s { s with upc := s.txhead }
  | done (hr : s.upc = 62#6) (t : State) (ht : t = s ∨ t = setErr .busTimeout s) : RowEnd s (finish t)

theorem checkStatus_of_row {s : State} {m : MicroOp} (hm : rom s.upc = some m) (hr : m ≠ .retry) (ha : m ≠ .abort) :
    checkStatus s = checkRow m s := by
  unfold checkStatus
  split
  · next h => exact absurd (Option.some.inj (hm.symm.trans h)) hr
  · next h => exact absurd (Option.some.inj (hm.symm.trans h)) ha
  · next m' _ _ h => rw [Option.some.inj (hm.symm.trans h)]
  · next h => cases hm.symm.trans h

theorem checkStatus_of_retry {s : State} (hr : s.upc = 61#6) : checkStatus s = checkRetry s := by
  simp only [checkStatus, rom_eq_retry.mpr hr]

theorem checkStatus_of_abort {s : State} (hr : s.upc = 62#6) : checkStatus s = checkAbort s := by
  simp only [checkStatus, rom_eq_abort.mpr hr]

/-- On an expected status the sequence goes on to the next row, a READ with its byte in the buffer (R204, R208). -/
theorem checkRow_of_expected {s : State} {m : MicroOp} (h : expectedStatus m s.status = true) :
    ∃ b, checkRow m s = { s with buf := b, upc := s.upc + 1#6 } := by
  rw [checkRow, if_pos h]
  cases m
  case read k ack => exact ⟨_, rfl⟩
  all_goals exact ⟨s.buf, rfl⟩

/-- The five statuses that the check names, expected by no row (R204). -/
theorem checkRow_of_unexpected {s : State} {m : MicroOp} (h : expectedStatus m s.status = false) :
    (s.status = .slawNack ∨ s.status = .slarNack → checkRow m s = addressNack s)
    ∧ (s.status = .dataTxNack → checkRow m s = abortWith .dataNack s)
    ∧ (s.status = .arbLost → checkRow m s = abortWith .arbLost s)
    ∧ (s.status = .busTimeout → checkRow m s = abortWith .busTimeout s) := by
  rw [checkRow, if_neg (by simp [h])]
  refine ⟨?_, ?_, ?_, ?_⟩
  · rintro (e | e) <;> rw [e]
  all_goals intro e; rw [e]

theorem checkStatus_rowEnd {s : State} {p : Prim} {m : MicroOp} {data : Byte} (hm : rom s.upc = some m)
    (hi : issuedBy m p data = true) (hs : mayEndWith p (dirRead data) s.status = true) : RowEnd s (checkStatus s) := by
  by_cases hretry : m = .retry
  · subst hretry
    have hr := rom_eq_retry.mp hm
    obtain rfl : p = .stop := by cases p <;> simp [issuedBy] at hi ⊢
    rw [checkStatus_of_retry hr, checkRetry]
    rcases status_of_stop hs with e | e
    · rw [if_pos e]
      exact .restart hr e
    · rw [if_neg (by simp [e])]
      exact .abort _ (by rw [hr]; decide) (by decide) (by rw [e]; decide)
  by_cases habort : m = .abort
  · subst habort
    have hr := rom_eq_abort.mp hm
    rw [checkStatus_of_abort hr, checkAbort]
    split
    · exact .done hr _ (.inr rfl)
    · exact .done hr _ (.inl rfl)
  have hr : s.upc ≠ 62#6 := fun e => habort (Option.some.inj (hm.symm.trans (rom_eq_abort.mpr e)))
  rw [checkStatus_of_row hm hretry habort]
  by_cases he : expectedStatus m s.status = true
  · obtain ⟨b, e⟩ := checkRow_of_expected he
    rw [e]
    exact .next m b hm he
  obtain ⟨hnack, hdata, harb, htime⟩ := checkRow_of_unexpected (Bool.not_eq_true _ ▸ he)
  rcases (status_of_issued hi hs hretry habort).resolve_left he with ⟨e, a, rfl⟩ | e | e | e
  · rw [hnack e, addressNack]
    have hp : phaseOfStatus s.status = .tx ∨ phaseOfStatus s.status = .rxend := by
      rcases e with e | e <;> rw [e] <;> decide
    split
    · exact .retry a hm e ‹_›
    · exact .abort _ hr (by decide) (.inr hp)
  · rw [hdata e]
    exact .abort _ hr (by decide) (by rw [e]; decide)
  · rw [harb e]
    exact .abort _ hr (by decide) (by rw [e]; decide)
  · rw [htime e]
    exact .abort _ hr (by decide) (by rw [e]; decide)

/-- The check of a completed primitive leads to a coherent state. The row was entered in phase `ph`; the phase now is
the one that the completion left. -/
theorem rowEnd_coherent {s t : State} {ph : Phase} (hend : RowEnd s t) (h : MayStandAt s s.upc ph)
    (hatt : s.attempts.toNat ≤ 256) (ho : s.opState = .idle) (hw : s.waiting = false)
    (hp : s.phase = phaseOfStatus s.status) (hopen : rom s.upc = some (.start true) → s.txhead = s.upc) :
    Coherent t := by
  cases hend with
  | next m b hm he =>
    have hnext : MayStandAt s (s.upc + 1#6) s.phase :=
      h.next hm (goesOn_of_expected he) (fun e => hopen (e ▸ hm)) (hp ▸ phaseAtRow_next_of_expected hm he)
    exact .of_idle_at_row { hnext with } hatt ho hw
  | retry a hm hs hn =>
    have hphase : s.phase = .tx ∨ s.phase = .rxend := by rcases hs with e | e <;> rw [hp, e] <;> decide
    exact .of_idle_at_row { h.retry hm hn hphase with } hatt ho hw
  | abort e hr he hphase =>
    exact .of_abort h hr hatt ho hw ⟨he.1, he.2.1, fun x => absurd x he.2.2⟩ (by rw [hp]; exact hphase)
  | restart hr hs =>
    have hrestart : MayStandAt s s.txhead s.phase := by
      rw [hp, hs]
      exact (hr ▸ h).restart
    exact .of_idle_at_row { hrestart with } hatt ho hw
  | done hr u hu =>
    rcases hu with rfl | rfl
    · exact .of_finish hatt ho hw
    · exact .of_finish (by simpa using hatt) (by simpa using ho) (by simpa using hw)

/-! ### A cycle with a primitive in flight -/

theorem countTimeout_running {s : State} (h : Running s) : Running (countTimeout s) :=
  { stands := { h.stands with }, notHost := h.notHost, flight := h.flight, wait := h.wait }

theorem countTimeout_resting {s : State} (h : Resting s) : Resting (countTimeout s) := { h with }

/-- The counter goes down but not to 0, which only disabling it means (R170). -/
theorem countTimeout_coherent {s : State} (h : Coherent s) (ht : s.tocnt ≠ 1#32) : Coherent (countTimeout s) where
  attempts := h.attempts
  timer :=
    { armed := fun p origin e => by
        rw [countTimeout_timeoutMs, ← h.timer.armed p origin e, countTimeout_tocnt]
        by_cases h0 : s.tocnt = 0#32
        · simp [h0]
        · have : s.tocnt - 1#32 ≠ 0#32 := by bv_omega
          simp [h0, this]
      bounded := fun p origin e => by
        refine le_trans ?_ (h.timer.bounded p origin e)
        rw [countTimeout_tocnt]
        split <;> bv_omega
      stalled := h.timer.stalled }
  mode := h.mode.imp countTimeout_resting countTimeout_running

/-- A stall, which needs the timeout disabled (R171). -/
theorem stallCore_coherent {s : State} {p : Prim} {origin : Origin} (h : Coherent s)
    (hs : s.opState = .inFlight p origin) (ht : s.tocnt = 0#32) : Coherent (stallCore (countTimeout s)) where
  attempts := h.attempts
  timer :=
    { armed := fun q o e => by simp at e
      bounded := fun q o e => by simp at e
      stalled := fun _ => (h.timer.armed p origin hs).mp ht }
  mode := by
    refine h.mode.imp (fun hrest => ?_) (fun hrun => ?_)
    · exact { hrest with
        busy := by simpa [hs] using hrest.busy
        notSeq := fun q e => by simp at e
        flight := fun q e => by simp at e }
    · refine { stands := { hrun.stands with }, notHost := fun q e => by simp at e, flight := fun q e => by simp at e,
               wait := fun e => ?_ }
      have := (hrun.wait e).1
      simp [hs] at this

/-- A host primitive completes into a resting state (R154). -/
theorem completeHost_coherent {s : State} {p : Prim} (hrest : Resting s) (hatt : s.attempts.toNat ≤ 256)
    (o : BusOutcome) : Coherent (completeHost p o s) := by
  obtain ⟨st, ph, d, e⟩ := complete_frame p o s
  rw [completeHost, e]
  exact
    { attempts := hatt
      timer := .of_idle rfl
      mode := .inl
        { kind := hrest.kind, upc := hrest.upc, waiting := hrest.waiting, busy := by simp, done := fun _ => rfl
          notSeq := fun q e => by simp at e
          flight := fun q e => by simp at e } }

/-- A sequence's primitive completes, and its check ends the row as `RowEnd` says (R155, R204). -/
theorem completeSeq_rowEnd {s : State} {p : Prim} {o : BusOutcome} {c : Completion} (hrun : Running s)
    (hs : s.opState = .inFlight p .seq) (hc : completionRow p s.phase (dirRead s.data) o = some c) :
    RowEnd { s with status := c.status, phase := c.phase, data := c.received.getD s.data, opState := .idle }
      (completeSeq p o s) := by
  obtain ⟨-, -, -, m, hm, hi, -⟩ := hrun.flight p hs
  rw [completeSeq, complete_of_row hc]
  exact checkStatus_rowEnd hm hi (completionRow_fits hc).status

theorem completeSeq_coherent {s : State} {p : Prim} {o : BusOutcome} {c : Completion} (hrun : Running s)
    (hatt : s.attempts.toNat ≤ 256) (hs : s.opState = .inFlight p .seq)
    (hc : completionRow p s.phase (dirRead s.data) o = some c) : Coherent (completeSeq p o s) := by
  obtain ⟨hw, -, -, m, hm, -, hopen⟩ := hrun.flight p hs
  exact rowEnd_coherent (completeSeq_rowEnd hrun hs hc) { hrun.stands with } hatt rfl hw (completionRow_fits hc).phase
    fun e => hopen (Option.some.inj (hm.symm.trans e))

/-- Completion of the primitive in flight by an outcome that has a row, in a cycle that is counted too (R154, R155). -/
theorem completeInFlight_coherent {s : State} {p : Prim} {origin : Origin} {o : BusOutcome} {c : Completion}
    (h : Coherent s) (hs : s.opState = .inFlight p origin)
    (hc : completionRow p s.phase (dirRead s.data) o = some c) :
    Coherent (completeInFlight p origin o (countTimeout s)) := by
  cases origin with
  | host =>
    have hrest : Resting s := h.mode.resolve_right fun hrun => hrun.notHost p hs
    exact completeHost_coherent (countTimeout_resting hrest) h.attempts o
  | seq =>
    have hrun : Running s := h.mode.resolve_left fun hrest => hrest.notSeq p hs
    exact completeSeq_coherent (countTimeout_running hrun) h.attempts hs hc

/-! ### A clock cycle -/

theorem waitCycle_coherent {s : State} (h : Coherent s) (ho : s.opState = .idle) (hw : s.waiting = true) :
    Coherent (waitCycle s) := by
  have hrun : Running s := h.mode.resolve_left fun hrest => by simp [hrest.waiting] at hw
  obtain ⟨-, ms, hm, hpos, hle⟩ := hrun.wait hw
  rcases waitCycle_cases s with ⟨hc, e⟩ | ⟨hc, e⟩ <;> rw [e]
  · obtain ⟨-, hnext⟩ := hrun.stands.next_idle hm rfl fun _ => rfl
    exact .of_idle_at_row { hnext with } h.attempts ho rfl
  · refine ⟨h.attempts, .of_idle ho, .inr { hrun with stands := { hrun.stands with }, wait := fun _ => ?_ }⟩
    refine ⟨ho, ms, hm, ?_⟩
    show 0 < (s.waitcnt - 1#32).toNat ∧ (s.waitcnt - 1#32).toNat ≤ _
    have : (s.waitcnt - 1#32).toNat = s.waitcnt.toNat - 1 := by bv_omega
    have : s.waitcnt.toNat ≠ 1 := fun e => hc (BitVec.eq_of_toNat_eq e)
    omega

theorem sequencerStep_coherent {s : State} (h : Coherent s) (ho : s.opState = .idle) (hw : s.waiting = false) :
    Coherent (sequencerStep s) := by
  unfold sequencerStep
  split
  · next m hm =>
    have hrun : Running s := h.mode.resolve_left fun hrest => by
      rw [hrest.upc] at hm
      cases hm
    exact microStep_coherent hrun.stands h.attempts ho hw hm (execMicro_step m s)
  · exact h

theorem coreCycle_coherent {s : State} (h : Coherent s) (answer : Option BusOutcome) :
    Coherent (coreCycle answer s) := by
  rcases coreCycle_cases answer s with ⟨p, origin, hs, e⟩ | ⟨hs, e⟩ | ⟨hs, hw, e⟩ | ⟨hs, hw, e⟩ <;> rw [e]
  · rcases inFlightCycle_cases p origin answer s with ⟨hb, e⟩ | ⟨o, ho, hb, e⟩ | ⟨_, ht, e⟩ | ⟨_, ht, e⟩ <;> rw [e]
    · obtain ⟨-, -, ha⟩ := busAnswer_some hb
      rw [admits_stall] at ha
      exact stallCore_coherent h hs (by simpa using ha)
    · obtain ⟨-, -, ha⟩ := busAnswer_some hb
      obtain ⟨c, hc⟩ := completionRow_of_admits ha ho (dirRead s.data)
      exact completeInFlight_coherent h hs hc
    · exact completeInFlight_coherent h hs (completionRow_timeout _ _ _)
    · exact countTimeout_coherent h ht
  · exact h
  · exact waitCycle_coherent h hs hw
  · exact sequencerStep_coherent h hs hw

/-! ### Host turns -/

/-- The fields that the host's registers, the ports and the model's own bookkeeping hold are not read by `State.inv`. -/
theorem Coherent.of_frame {s : State} (h : Coherent s) (ov : Bool) (rd : Word) (ls : List HostLine) (d : Nat)
    (ts : List Turn) (n : Nat) :
    Coherent { s with ovr := ov, rdata := rd, host := ls, hostDelay := d, turns := ts, taken := n } where
  attempts := h.attempts
  timer := { h.timer with }
  mode := h.mode.imp (fun hrest => { hrest with })
    fun hrun => { stands := { hrun.stands with }, notHost := hrun.notHost, flight := hrun.flight, wait := hrun.wait }

theorem overrun_coherent {s : State} (h : Coherent s) : Coherent (overrun s) :=
  h.of_frame true s.rdata s.host s.hostDelay s.turns s.taken

/-- With BUSY = 0 nothing is running and nothing in flight (R33). -/
theorem Coherent.resting_of_not_busy {s : State} (h : Coherent s) (hb : s.busy = false) :
    Resting s ∧ s.opState = .idle := by
  have hrest : Resting s := h.mode.resolve_right fun hrun => by simp [hrun.stands.busy] at hb
  have ho := hrest.busy
  rw [hb] at ho
  exact ⟨hrest, by simpa using ho⟩

/-- A state that rests with nothing in flight is coherent whatever its registers hold. -/
theorem Coherent.of_resting {s : State} (hatt : s.attempts.toNat ≤ 256) (ho : s.opState = .idle)
    (hk : s.seqkind = .none) (hu : s.upc = 63#6) (hw : s.waiting = false) (hb : s.busy = false) : Coherent s where
  attempts := hatt
  timer := .of_idle ho
  mode := .inl
    { kind := hk, upc := hu, waiting := hw, busy := by simp [hb, ho], done := fun _ => hb
      notSeq := fun p e => by simp [ho] at e
      flight := fun p e => by simp [ho] at e }

/-- A sequence's entry row (R201). -/
theorem acceptSequence_coherent {s : State} {k : SeqKind} (hrest : Resting s) (hatt : s.attempts.toNat ≤ 256)
    (ho : s.opState = .idle) (hp : s.phase = .idle) (hk : k ≠ .none) : Coherent (acceptSequence k s) := by
  have hentry : rowOfKind k k.entry = true ∧ phaseAtRow k.entry .idle = true ∧ openedAt k.entry = none
      ∧ k.entry ≠ 61#6 ∧ k.entry ≠ 62#6 := by
    cases k
    case none => exact absurd rfl hk
    all_goals decide
  obtain ⟨hrow, hphase, hopened, hretry, habort⟩ := hentry
  refine .of_idle_at_row ?_ ?_ ho hrest.waiting
  · exact
      { kind := hk, busy := rfl, done := rfl, row := hrow
        phase := by rw [acceptSequence_phase, hp]; exact hphase
        head := (headAtRow_iff_openedAt hretry).mpr fun x hx => by simp [hopened] at hx
        noErr := fun _ => rfl
        err := fun e => absurd e habort
        valid := fun (e : k = .measure) => by rw [acceptSequence_valid, if_pos e]
        attempts := fun (e : k = .measure) => by rw [acceptSequence_attempts, if_pos e]; exact Nat.zero_le _
        nack := Nat.zero_le _ }
  · rw [acceptSequence_attempts]
    split
    · decide
    · exact hatt

/-- Every command leads to a coherent state (R115). -/
theorem commandStep_coherent {i : Instr} {s t : State} (h : Coherent s) (hstep : CommandStep i s t) : Coherent t := by
  cases hstep with
  | nop => exact h
  | dropped => exact overrun_coherent h
  | illegal hb | idleStop hb | rejected _ hb =>
    obtain ⟨hrest, ho⟩ := h.resting_of_not_busy hb
    exact .of_resting h.attempts ho hrest.kind hrest.upc hrest.waiting hb
  | accepted p hb hi hi' hl hs =>
    obtain ⟨hrest, ho⟩ := h.resting_of_not_busy hb
    exact
      { attempts := h.attempts
        timer := .of_loaded rfl (by simp)
        mode := .inl
          { kind := hrest.kind, upc := hrest.upc, waiting := hrest.waiting, busy := by simp
            done := fun e => by simp at e
            notSeq := fun q e => by simp at e
            flight := fun q e => by
              obtain rfl : p = q := by simpa using e
              exact ⟨hl, fun hp hph => hs ⟨hp, hph⟩⟩ } }
  | sequence k hk hb hi hi' hp =>
    obtain ⟨hrest, ho⟩ := h.resting_of_not_busy hb
    exact acceptSequence_coherent hrest h.attempts ho hp hk

/-- A guarded write leads to a coherent state: it is dropped, or done while nothing runs (R89). -/
theorem unlessBusy_coherent {s s' : State} (h : Coherent s)
    (hs : s.busy = false → s'.attempts = s.attempts ∧ s'.opState = s.opState ∧ s'.seqkind = s.seqkind
      ∧ s'.upc = s.upc ∧ s'.waiting = s.waiting ∧ s'.busy = s.busy) : Coherent (unlessBusy s s') := by
  rcases unlessBusy_cases s s' with ⟨-, e⟩ | ⟨hb, e⟩ <;> rw [e]
  · exact overrun_coherent h
  · obtain ⟨hrest, ho⟩ := h.resting_of_not_busy hb
    obtain ⟨ha, hop, hk, hu, hw, hb'⟩ := hs hb
    exact .of_resting (ha ▸ h.attempts) (hop.trans ho) (hk.trans hrest.kind) (hu.trans hrest.upc)
      (hw.trans hrest.waiting) (hb'.trans hb)

theorem writeReg_coherent {s : State} (h : Coherent s) (v : Word) (r : Reg) : Coherent (writeReg v r s) := by
  cases r
  case csr => exact h.of_frame _ s.rdata s.host s.hostDelay s.turns s.taken
  case data | div | cfg | raw0 | raw1 | raw2 | raw3 | raw4 | raw5 =>
    exact unlessBusy_coherent h fun _ => ⟨rfl, rfl, rfl, rfl, rfl, rfl⟩
  all_goals exact h

theorem memWrite_coherent {s t : State} {off : Offset} {v : Word} (h : Coherent s)
    (hw : memWrite off v s = .next t) : Coherent t := by
  rcases memWrite_next hw with ⟨-, hstep⟩ | ⟨r, -, -, rfl⟩ | ⟨-, rfl⟩
  · exact commandStep_coherent h hstep
  · exact writeReg_coherent h v r
  · exact h

/-! ### One step -/

theorem countDelay_coherent {s : State} (h : Coherent s) : Coherent (countDelay s) :=
  h.of_frame s.ovr s.rdata s.host _ s.turns s.taken

theorem resetCycle_coherent (s : State) : Coherent (resetCycle s) :=
  .of_resting (show (0#9).toNat ≤ 256 by decide) rfl rfl rfl rfl rfl

/-- A clock turn is the core's cycle. -/
theorem step_of_clock {s : State} {a : Option BusOutcome} (h : (takeTurn s).1 = .clock a) :
    step s = .next (clockCycle a (takeTurn s).2) := by
  rw [step, h, runTurn]

theorem step_coherent {s t : State} (h : Coherent s) (hstep : step s = .next t) : Coherent t := by
  obtain ⟨ts, s', rfl, hcase⟩ := step_next_cases hstep
  have h' : Coherent { s with turns := ts, taken := s.taken + 1 } := h.of_frame s.ovr s.rdata s.host s.hostDelay ts _
  rcases hcase with ⟨-, rfl⟩ | ⟨a, u, ha, -, -⟩ | ⟨off, v, rest, -, -, -, hw⟩ | ⟨-, rd, ls, d, rfl⟩
  · exact resetCycle_coherent _
  · obtain ⟨ts', e⟩ := takeTurn_frame s
    rw [step_of_clock ha, e] at hstep
    cases hstep
    exact countDelay_coherent (coreCycle_coherent (h.of_frame s.ovr s.rdata s.host s.hostDelay ts' _) a)
  · exact memWrite_coherent (h.of_frame s.ovr s.rdata rest s.hostDelay ts _) hw
  · exact h.of_frame s.ovr rd ls d ts _

/-! ### The statements -/

/-- Settles O50: `step_coherent`, with `State.inv` in its two modes. -/
theorem stepKeepsCoherence : Obligations.StepKeepsCoherence := by
  intro s t hinv hstep
  exact (inv_iff_coherent t).mpr (step_coherent ((inv_iff_coherent s).mp hinv) hstep)

/-- Settles O49: right after reset nothing runs. -/
theorem resetIsCoherent : Obligations.ResetIsCoherent :=
  (inv_iff_coherent _).mpr (.of_resting (by decide) rfl rfl rfl rfl rfl)

end Sys2Proof.Machine
end

section
/-! What the registers store and read as (spec/10_state.md R31 to R48, spec/20_memory.md R84 to R91), and the decoded
ones (spec/42_decoder.md R253 to R257). -/

namespace Sys2Proof.Machine

/-! ### Fields of a word -/

/-- A slice of a word, as a shift and a truncation. -/
theorem extractLsb'_eq_setWidth_shift (v : Word) (start len : Nat) :
    v.extractLsb' start len = (v >>> start).setWidth len := by
  apply BitVec.eq_of_toNat_eq
  rw [BitVec.extractLsb'_toNat, BitVec.toNat_setWidth, BitVec.toNat_ushiftRight]

theorem lowByte_eq_setWidth (v : Word) : lowByte v = v.setWidth 8 := by
  rw [lowByte, extractLsb'_eq_setWidth_shift, BitVec.ushiftRight_zero]

/-- A slice of a word, found by arithmetic on the word as a number. -/
theorem extractLsb'_eq_of_toNat {w : Word} {start len : Nat} {x : BitVec len}
    (h : w.toNat / 2 ^ start % 2 ^ len = x.toNat) : w.extractLsb' start len = x := by
  apply BitVec.eq_of_toNat_eq
  rw [BitVec.extractLsb'_toNat, Nat.shiftRight_eq_div_pow, h]

/-- A bit of a word, found by arithmetic on the word as a number. -/
theorem getLsbD_eq_of_toNat {w : Word} {i : Nat} {b : Bool} (h : w.toNat / 2 ^ i % 2 = b.toNat) :
    w.getLsbD i = b := by
  have hbit : (w.getLsbD i).toNat = b.toNat := by rw [BitVec.getLsbD, Nat.toNat_testBit, h]
  rw [Bool.eq_iff_iff, ← Bool.toNat_eq_one, ← Bool.toNat_eq_one, hbit]

/-! ### What a write stores at BUSY = 0 -/

theorem unlessBusy_of_idle {s : State} (hb : s.busy = false) (s' : State) : unlessBusy s s' = s' :=
  if_neg (by simp [hb])

theorem writeReg_raw_of_idle {s : State} {r : Reg} {k : Fin 6} (hb : s.busy = false) (hk : rawIndex r = some k)
    (v : Word) : writeReg v r s = writeRaw k v s := by
  cases r
  case raw0 | raw1 | raw2 | raw3 | raw4 | raw5 => cases hk; exact unlessBusy_of_idle hb _
  all_goals cases hk

/-- Settles O14: the write reaches the register, is not dropped, and stores slices of the word. -/
theorem writesStoreTheirFields : Obligations.WritesStoreTheirFields := by
  refine fun s off v hb => ⟨fun hreg => ?data, fun hreg => ?div, fun hreg => ?cfg, fun r k hreg hk => ?raw⟩
  case data => rw [memWrite_reg hreg (by decide), writeReg, unlessBusy_of_idle hb, writeData, lowByte_eq_setWidth]
  case div => rw [memWrite_reg hreg (by decide), writeReg, unlessBusy_of_idle hb, writeDiv, lowByte_eq_setWidth]
  case cfg =>
    rw [memWrite_reg hreg (by decide), writeReg, unlessBusy_of_idle hb, writeCfg, lowByte_eq_setWidth, cfgNackRetries,
      cfgTimeoutMs, extractLsb'_eq_setWidth_shift, extractLsb'_eq_setWidth_shift]
  case raw =>
    have hcmd : r ≠ .cmd := by rintro rfl; cases hk
    rw [memWrite_reg hreg hcmd, writeReg_raw_of_idle hb hk, writeRaw, lowByte_eq_setWidth]

/-! ### What the status registers read as -/

theorem toNat_csrWord (s : State) :
    (csrWord s).toNat = s.upc.toNat * 2 ^ 8 + s.phase.code.toNat * 2 ^ 4 + s.valid.toNat * 2 ^ 3 + s.ovr.toNat * 2 ^ 2
      + s.done.toNat * 2 + s.busy.toNat := by
  simp only [csrWord, toNat_append_eq_add, BitVec.toNat_ofBool, BitVec.toNat_ofNat]
  omega

theorem toNat_cfgWord (s : State) :
    (cfgWord s).toNat = s.timeoutMs.toNat * 2 ^ 16 + s.nackRetries.toNat * 2 ^ 8 + s.busyRetries.toNat := by
  simp only [cfgWord, toNat_append_eq_add, BitVec.toNat_ofNat]
  omega

theorem toNat_resultWord (s : State) : (resultWord s).toNat = s.attempts.toNat * 2 ^ 8 + s.err.code.toNat := by
  simp only [resultWord, toNat_append_eq_add, BitVec.toNat_ofNat]
  omega

/-- CSR's bits and fields, each at its place (R33 to R39). -/
theorem csrWord_fields (s : State) :
    (csrWord s).getLsbD 0 = s.busy ∧ (csrWord s).getLsbD 1 = s.done ∧ (csrWord s).getLsbD 2 = s.ovr
    ∧ (csrWord s).getLsbD 3 = s.valid ∧ (csrWord s).extractLsb' 4 3 = s.phase.code
    ∧ (csrWord s).extractLsb' 8 6 = s.upc ∧ (csrWord s).getLsbD 7 = false
    ∧ ∀ n, 14 ≤ n → (csrWord s).getLsbD n = false := by
  have hw := toNat_csrWord s
  have hupc := s.upc.isLt
  have hphase := s.phase.code.isLt
  have hvalid := s.valid.toNat_lt
  have hovr := s.ovr.toNat_lt
  have hdone := s.done.toNat_lt
  have hbusy := s.busy.toNat_lt
  refine ⟨getLsbD_eq_of_toNat ?_, getLsbD_eq_of_toNat ?_, getLsbD_eq_of_toNat ?_, getLsbD_eq_of_toNat ?_,
    extractLsb'_eq_of_toNat ?_, extractLsb'_eq_of_toNat ?_, getLsbD_eq_of_toNat ?_, fun n hn => ?_⟩
  case refine_8 =>
    have hpow : 2 ^ 14 ≤ 2 ^ n := Nat.pow_le_pow_right (by decide) hn
    exact Nat.testBit_lt_two_pow (by omega)
  case refine_7 =>
    rw [Bool.toNat_false]
    omega
  all_goals omega

/-- CFG's three fields and its reserved bits (R43). -/
theorem cfgWord_fields (s : State) :
    (cfgWord s).extractLsb' 0 8 = s.busyRetries ∧ (cfgWord s).extractLsb' 8 4 = s.nackRetries
    ∧ (cfgWord s).extractLsb' 12 4 = 0#4 ∧ (cfgWord s).extractLsb' 16 8 = s.timeoutMs
    ∧ (cfgWord s).extractLsb' 24 8 = 0#8 := by
  have hw := toNat_cfgWord s
  have hbusy := s.busyRetries.isLt
  have hnack := s.nackRetries.isLt
  have htime := s.timeoutMs.isLt
  refine ⟨?_, ?_, ?_, ?_, ?_⟩ <;> apply extractLsb'_eq_of_toNat
  any_goals rw [BitVec.toNat_zero]
  all_goals omega

/-- RESULT's two fields and its reserved bits (R45, R46). -/
theorem resultWord_fields (s : State) :
    (resultWord s).extractLsb' 0 4 = s.err.code ∧ (resultWord s).extractLsb' 4 4 = 0#4
    ∧ (resultWord s).extractLsb' 8 9 = s.attempts ∧ (resultWord s).extractLsb' 17 15 = 0#15 := by
  have hw := toNat_resultWord s
  have herr := s.err.code.isLt
  have hatt := s.attempts.isLt
  refine ⟨?_, ?_, ?_, ?_⟩ <;> apply extractLsb'_eq_of_toNat
  any_goals rw [BitVec.toNat_zero]
  all_goals omega

/-- Settles O16: CSR, CFG and RESULT by their fields, PHASE and ERR by their numbers; the others read one field. -/
theorem registersReadTheirFields : Obligations.RegistersReadTheirFields := by
  intro s
  obtain ⟨hbusy, hdone, hovr, hvalid, hphase, hupc, hbit7, hhigh⟩ := csrWord_fields s
  obtain ⟨herr, hres, hatt, hhigh'⟩ := resultWord_fields s
  refine ⟨rfl, ⟨hbusy, hdone, hovr, hvalid, ?_, ?_, ?_, ?_, ?_, hupc, hbit7, hhigh⟩, rfl, rfl, cfgWord_fields s,
    ⟨?_, ?_, ?_, ?_, ?_, ?_, ?_, hres, hatt, hhigh'⟩, rfl, ⟨rfl, rfl, rfl, rfl, rfl, rfl⟩⟩
  iterate 5
    intro e
    exact hphase.trans (by rw [e]; rfl)
  all_goals
    intro e
    exact herr.trans (by rw [e]; rfl)

/-- Settles O19: each register of the fixed state, evaluated. -/
theorem registersReadTheirResetValues : Obligations.RegistersReadTheirResetValues := by
  unfold Obligations.RegistersReadTheirResetValues
  decide

/-- Settles O53: the table by definition, and STAT reads the code of the current status. -/
theorem statusCodesAreTheTable : Obligations.StatusCodesAreTheTable := by
  refine ⟨rfl, rfl, rfl, rfl, rfl, rfl, rfl, rfl, rfl, rfl, rfl, rfl, rfl, rfl, fun s => ⟨rfl, ?_⟩⟩
  change s.status.code.setWidth 32 ∈ _
  cases s.status <;> decide

/-! ### The decoded registers -/

/-- The scaled temperature is a shift of TEMP20 x 25, below 200 (R253). -/
theorem temperatureCelsius_range (t : BitVec 20) :
    temperatureCelsius t = ((t.toNat * 25 / 2 ^ 17 : Nat) : Int) - 50 ∧ -50 ≤ temperatureCelsius t
      ∧ temperatureCelsius t ≤ 149 := by
  have hlt := t.isLt
  rw [temperatureCelsius, Nat.shiftRight_eq_div_pow]
  refine ⟨rfl, ?_, ?_⟩ <;> omega

/-- TEMP_C reads the temperature itself: 32 bits in two's complement hold it (R253). -/
theorem toInt_memRead_tempC (s : State) :
    (memRead s 0x44#8).toInt = temperatureCelsius (temperature20 s.raw) := by
  obtain ⟨-, hlow, hhigh⟩ := temperatureCelsius_range (temperature20 s.raw)
  change (BitVec.ofInt 32 _).toInt = _
  rw [BitVec.toInt_ofInt]
  exact Int.bmod_eq_of_le (by omega) (by omega)

/-- Settles O56: TEMP_C reads the temperature, and TEMP20 the fraction it is of. -/
theorem temperatureIsExact : Obligations.TemperatureIsExact := by
  intro s
  rw [toInt_memRead_tempC, toNat_memRead_temp20]
  exact temperatureCelsius_range _

/-- Settles O57: `humidity20_packReading` and `temperature20_packReading`. -/
theorem inversePackingIsRecovered : Obligations.InversePackingIsRecovered :=
  fun b0 h t => ⟨humidity20_packReading b0 h t, temperature20_packReading b0 h t⟩

/-- The slots 14 to 17, the offsets 0x38 to 0x47, hold the decoded registers (R31, R81). -/
theorem regAt_decoded {off : Offset} (hlow : 0x38 ≤ off.toNat) (hhigh : off.toNat ≤ 0x47) :
    regAt off = some .hum20 ∨ regAt off = some .temp20 ∨ regAt off = some .humPct ∨ regAt off = some .tempC := by
  have hslot : (slotOf off).toNat = off.toNat / 4 := by
    rw [slotOf, BitVec.extractLsb'_toNat, Nat.shiftRight_eq_div_pow]
    omega
  unfold regAt regOfSlot
  split
  case h_15 | h_16 | h_17 | h_18 => simp
  case h_19 => simp only [imp_false] at *; omega
  all_goals omega

/-- Settles O58: a decoded register reads a function of one of the two fractions, and these are of RAW1 to RAW5. -/
theorem decodedRegistersDependOnRaw1To5Alone : Obligations.DecodedRegistersDependOnRaw1To5Alone := by
  intro s s' off h1 h2 h3 h4 h5 hlow hhigh
  have hhum : humidity20 s.raw = humidity20 s'.raw := by rw [humidity20, humidity20, h1, h2, h3]
  have htemp : temperature20 s.raw = temperature20 s'.raw := by rw [temperature20, temperature20, h3, h4, h5]
  unfold memRead
  rcases regAt_decoded hlow hhigh with e | e | e | e <;> rw [e]
  · exact congrArg (BitVec.setWidth 32) hhum
  · exact congrArg (BitVec.setWidth 32) htemp
  · exact congrArg (fun h => BitVec.ofNat 32 (humidityPercent h)) hhum
  · exact congrArg (fun t => BitVec.ofInt 32 (temperatureCelsius t)) htemp

end Sys2Proof.Machine
end

section
/-! The host's turns: accesses, polls and pseudo-instructions (spec/30_encoding.md R117 to R127, spec/60_exceptions.md
R270). -/

namespace Sys2Proof.Machine

/-! ### One host turn, by the line it is at -/

/-- A settled host turn. -/
theorem step_host {s : State} {ts : List Turn} (h : s.turns = .host :: ts) : step s = hostTurn (afterTurn ts s) := by
  rw [step, takeTurn_cons h, runTurn, afterTurn]

theorem hostTurn_wr {s : State} {off : Offset} {v : Word} {rest : List HostLine} (hd : s.hostDelay = 0)
    (hh : s.host = .wr off v :: rest) : hostTurn s = memWrite off v { s with host := rest } := by
  unfold hostTurn
  rw [if_neg (not_not.mpr hd)]
  simp only [hh]

theorem hostTurn_rd {s : State} {off : Offset} {rest : List HostLine} (hd : s.hostDelay = 0)
    (hh : s.host = .rd off :: rest) : hostTurn s = .next (hostRead off { s with host := rest }) := by
  unfold hostTurn
  rw [if_neg (not_not.mpr hd)]
  simp only [hh]

theorem hostTurn_poll {s : State} {off : Offset} {mask value : Word} {rest : List HostLine} (hd : s.hostDelay = 0)
    (hh : s.host = .poll off mask value :: rest) : hostTurn s = .next (hostPoll off mask value rest s) := by
  unfold hostTurn
  rw [if_neg (not_not.mpr hd)]
  simp only [hh]

/-- Reads see neither the program nor the turns. -/
theorem memRead_afterTurn (s : State) (ts : List Turn) (ls : List HostLine) (off : Offset) :
    memRead { afterTurn ts s with host := ls } off = memRead s off :=
  memRead_of_own_fields s off s.rdata ls s.hostDelay ts (s.taken + 1)

/-- Settles O5: the host turn is the write, and the write to CMD is exec of the decoded word. -/
theorem stepRunsTheDecodedCommand : Obligations.StepRunsTheDecodedCommand := by
  refine ⟨fun s off v rest ts hturn hd hh hreg _ => ?_, fun s nbits w => ?_⟩
  · have hd' : (afterTurn ts s).hostDelay = 0 := hd
    rw [step_host hturn, hostTurn_wr hd' hh, memWrite_cmd hreg]
  · have hturn : (s.withFetchWord nbits w).turns = .host :: s.turns := rfl
    rw [step_host hturn, hostTurn_wr rfl rfl, memWrite_cmd rfl]
    rfl

/-- Settles O15: the host turn is the read, which writes `rdata` alone. -/
theorem hostReadHasNoSideEffect : Obligations.HostReadHasNoSideEffect := by
  intro s off rest ts hturn hd hh
  have hd' : (afterTurn ts s).hostDelay = 0 := hd
  rw [step_host hturn, hostTurn_rd hd' hh, hostRead, memRead_afterTurn]

/-- Settles O60: one access of `hostPoll`, which drops the line when the value matches. -/
theorem pollRepeatsUntilItMatches : Obligations.PollRepeatsUntilItMatches := by
  intro s ts off mask value rest hturn hd hh
  have hd' : (afterTurn ts s).hostDelay = 0 := hd
  have hread : memRead (afterTurn ts s) off = memRead s off := memRead_afterTurn s ts s.host off
  rw [step_host hturn, hostTurn_poll hd' hh, hostPoll, hread]
  split
  · rw [hostRead, hread]
  · rw [hostRead, hread]
    rfl

/-! ### Pseudo-instructions -/

/-- A host turn answers a next state, unless its line is a pseudo-instruction (R270). -/
theorem hostTurn_answers (s : State) :
    (∃ t, hostTurn s = .next t) ∨ (s.hostDelay = 0 ∧ ∃ c rest, s.host = .call c :: rest) := by
  unfold hostTurn
  by_cases hd : s.hostDelay = 0
  · rw [if_neg (not_not.mpr hd)]
    cases hh : s.host with
    | nil => exact .inl ⟨_, rfl⟩
    | cons l rest =>
      cases l with
      | wr off v => exact .inl (memWrite_total off v _)
      | call c => exact .inr ⟨hd, c, rest, rfl⟩
      | _ => exact .inl ⟨_, rfl⟩
  · rw [if_pos hd]
    exact .inl ⟨_, rfl⟩

/-- A host turn at a pseudo-instruction: refused as out of range, or the line replaced (R121, R123). -/
theorem hostTurn_call_cases {s : State} {c : HostCall} {rest : List HostLine} (hd : s.hostDelay = 0)
    (hh : s.host = .call c :: rest) :
    (c.divisorInRange Config.fCoreHz = false ∧ c.addressInRange = true ∧ hostTurn s = .refused .divisorOutOfRange)
    ∨ (c.divisorInRange Config.fCoreHz = true ∧ c.addressInRange = false ∧ hostTurn s = .refused .addressAbove127)
    ∨ (c.divisorInRange Config.fCoreHz = true ∧ c.addressInRange = true ∧
        ∃ ls, expand Config.fCoreHz c = .ok ls ∧ hostTurn s = .next { s with host := ls ++ rest }) := by
  rw [hostTurn_call hd hh]
  rcases expand_cases Config.fCoreHz c with ⟨hdiv, haddr, e⟩ | ⟨hdiv, haddr, e⟩ | ⟨hdiv, haddr, ls, e⟩ <;> rw [e]
  · exact .inl ⟨hdiv, haddr, rfl⟩
  · exact .inr (.inl ⟨hdiv, haddr, rfl⟩)
  · exact .inr (.inr ⟨hdiv, haddr, ls, rfl, rfl⟩)

/-- Settles O52: clock and reset turns answer; a host turn answers or is at a pseudo-instruction, which
`hostTurn_call_cases` takes apart. -/
theorem stepAlwaysAnswers : Obligations.StepAlwaysAnswers := by
  refine ⟨fun s => ?_, fun s ts c rest hturn hd hh => ?_⟩
  · rcases step_cases s with ⟨hturn, e⟩ | ⟨a, -, e⟩ | ⟨-, e⟩
    · obtain ⟨ts, hframe⟩ := takeTurn_frame s
      have hd : (takeTurn s).2.hostDelay = s.hostDelay := by rw [hframe]
      have hh : (takeTurn s).2.host = s.host := by rw [hframe]
      rw [e]
      rcases hostTurn_answers (takeTurn s).2 with hnext | ⟨hd', c, rest, hh'⟩
      · exact .inl hnext
      rcases hostTurn_call_cases hd' hh' with ⟨hdiv, -, e⟩ | ⟨-, haddr, e⟩ | ⟨-, -, ls, -, e⟩
      · exact .inr ⟨hturn, hd ▸ hd', c, rest, hh ▸ hh', .inl ⟨hdiv, e⟩⟩
      · exact .inr ⟨hturn, hd ▸ hd', c, rest, hh ▸ hh', .inr ⟨haddr, e⟩⟩
      · exact .inl ⟨_, e⟩
    · exact .inl ⟨_, e⟩
    · exact .inl ⟨_, e⟩
  · have hd' : (afterTurn ts s).hostDelay = 0 := hd
    rw [step_host hturn]
    rcases hostTurn_call_cases hd' hh with ⟨hdiv, haddr, e⟩ | ⟨hdiv, haddr, e⟩ | ⟨hdiv, haddr, ls, hls, e⟩
    · exact ⟨fun _ => e, fun h => by simp [haddr] at h, fun h => by simp [hdiv] at h⟩
    · exact ⟨fun h => by simp [hdiv] at h, fun _ => e, fun _ h => by simp [haddr] at h⟩
    · exact ⟨fun h => by simp [hdiv] at h, fun h => by simp [haddr] at h, fun _ _ => ⟨ls, hls, e⟩⟩

/-! ### The expansions of i2c.init and of the address calls -/

theorem initDivisor_of_range {hz f : Nat} (hlow : 16 ≤ hz / f) (hhigh : (hz / f - 16) / 2 ≤ 255) :
    initDivisor hz f = some (BitVec.ofNat 8 ((hz / f - 16) / 2)) :=
  if_pos ⟨hlow, hhigh⟩

theorem initDivisor_of_out_of_range {hz f : Nat} (h : hz / f < 16 ∨ 255 < (hz / f - 16) / 2) :
    initDivisor hz f = none :=
  if_neg (by omega)

/-- A number of a byte's range, zero-extended. -/
theorem setWidth_ofNat_of_le {n : Nat} (h : n ≤ 255) : (BitVec.ofNat 8 n).setWidth 32 = BitVec.ofNat 32 n := by
  apply BitVec.eq_of_toNat_eq
  simp only [BitVec.toNat_setWidth, BitVec.toNat_ofNat]
  omega

/-- The address byte of a 7-bit address, zero-extended: (a<<1)|dir (R123). -/
theorem setWidth_addressByte {a : Nat} (h : a ≤ 127) (read : Bool) :
    (addressByte a read).setWidth 32 = BitVec.ofNat 32 (2 * a + read.toNat) := by
  have hbit := read.toNat_le
  apply BitVec.eq_of_toNat_eq
  rw [BitVec.toNat_setWidth, addressByte, toNat_append_eq_add]
  simp only [BitVec.toNat_ofNat, BitVec.toNat_ofBool]
  omega

/-- Settles O59: the tests of R121 and R123, and the byte each call writes. -/
theorem pseudoInstructionsAreExpandedOrRefused : Obligations.PseudoInstructionsAreExpandedOrRefused := by
  refine ⟨fun hz f => ⟨fun h => ?_, fun hlow hhigh => ?_⟩, fun hz a => ⟨fun h => ?_, fun h => ?_⟩⟩
  · simp only [expand, initDivisor_of_out_of_range h]
  · simp only [expand, initDivisor_of_range hlow hhigh, setWidth_ofNat_of_le hhigh, wrReg, Reg.offset]
  · simp only [expand, if_neg (Nat.not_le.mpr h), and_self]
  · simp only [expand, if_pos h, setWidth_addressByte h]
    exact ⟨rfl, rfl⟩

end Sys2Proof.Machine
end

section
/-! What each micro-op does in its step, and the status checks (spec/41_sequencer.md R203 to R221). -/

namespace Sys2Proof.Machine

/-! ### The error paths as whole states -/

/-- `err(k); upc <- 62`, the first error kept (R204, R45). -/
theorem abortWith_eq_record (k : ErrKind) (s : State) :
    abortWith k s = { s with err := if s.err = .ok then k else s.err, upc := 62#6 } := by
  by_cases h : s.err = .ok <;> simp [setErr, goto, h]

theorem setErr_of_err {k : ErrKind} {s : State} (h : s.err ≠ .ok) : setErr k s = s :=
  if_neg h

/-! ### Statuses by their codes -/

/-- No two statuses share a code (R271). -/
theorem code_injective {a b : BusStatus} (h : a.code = b.code) : a = b := by
  revert h
  cases a <;> cases b <;> decide

/-! ### The micro-program and its steps -/

theorem rom_of_gap : ∀ r : Row, 46 ≤ r.toNat → r.toNat ≤ 60 → rom r = none := by decide

/-- Settles O30: the rows of the ROM by definition, and the gap after them. -/
theorem microProgramRows : Obligations.MicroProgramRows :=
  ⟨rfl, rfl, rfl, rfl, rfl, rfl, rfl, rfl, rfl, rfl, rfl, rfl, rfl, rfl, rfl, rfl, rfl, rfl, rfl, rfl,
    rfl, rfl, rfl, rfl, rfl, rfl, rfl, rfl, rfl, rfl, rfl, rfl, rfl, rfl, rfl, rfl, rfl, rfl, rfl, rfl, rfl, rfl,
    rfl, rfl, rfl, rfl, rfl, rfl, rfl, rom_of_gap⟩

/-- Settles O31: `step_micro` at each kind of row; a STOP row is split by the phase. -/
theorem microOpsIssueTheirPrimitives : Obligations.MicroOpsIssueTheirPrimitives := by
  intro s ts a m hturn ho hw hm
  rw [step_micro hturn ho hw hm]
  refine ⟨?start, ?addr, ?write, ?read, ?stop, ?idleStop⟩
  case start =>
    rintro head rfl
    cases head <;> rfl
  case addr | write =>
    rintro b rfl
    rfl
  case read =>
    rintro k ack rfl
    rfl
  case stop =>
    rintro rfl hp
    rw [execMicro, microStop, if_neg hp]
    rfl
  case idleStop =>
    rintro rfl hp
    rw [execMicro, microStop, if_pos hp]
    rfl

/-- Settles O37: BRCAL's test is bit 3. -/
theorem brcalTestsTheCalibratedBit : Obligations.BrcalTestsTheCalibratedBit := by
  intro s ts a t hturn ho hw hm
  rw [step_micro hturn ho hw hm, execMicro, microBrcal, sensorCalibrated]
  cases s.sstat.getLsbD 3 <;> rfl

/-- Settles O39: BRBUSY's two tests, and the error path. -/
theorem brbusyRetriesWithinBudget : Obligations.BrbusyRetriesWithinBudget := by
  intro s ts a t hturn ho hw hm
  rw [step_micro hturn ho hw hm, execMicro, microBrbusy, sensorBusy]
  refine ⟨fun hb hle => ?retry, fun hb hle => ?timeout, fun hb => ?ready⟩
  case retry => rw [if_pos hb, if_pos hle]; rfl
  case timeout => rw [if_pos hb, if_neg hle, abortWith_eq_record]; rfl
  case ready => rw [if_neg (Bool.eq_false_iff.mp hb)]; rfl

/-- Settles O41: END is `Finish()`, and ERR = 0 is its first kind. -/
theorem endFinishesTheSequence : Obligations.EndFinishesTheSequence := by
  intro s ts a hturn ho hw hm
  have herr : s.err.code = 0#4 ↔ s.err = .ok := by cases s.err <;> decide
  rw [step_micro hturn ho hw hm, execMicro, microEnd, finish]
  simp only [herr]
  rfl

/-- Settles O34: the two cases of R219; the count does not wrap below a budget of four bits. -/
theorem addressNackRestartsWithinBudget : Obligations.AddressNackRestartsWithinBudget := by
  refine fun s => ⟨fun hn => ?_, fun hn => ?_⟩
  · have hcount : (s.nackcnt + 1#4).toNat = s.nackcnt.toNat + 1 := by
      have := s.nackRetries.isLt
      rw [BitVec.toNat_add, BitVec.toNat_ofNat]
      omega
    rw [addressNack, if_pos hn]
    exact ⟨rfl, hcount⟩
  · rw [addressNack, if_neg hn, abortWith_eq_record]

/-- Settles O40: RETRY and ABORT by the phase, and their checks by the STOP's two statuses. -/
theorem retryAndAbortStopTheTransaction : Obligations.RetryAndAbortStopTheTransaction := by
  refine ⟨fun s ts a hturn ho hw => ⟨?issue, ?restart, ?finish⟩,
    fun s => ⟨?checkRestart, ?checkTimeout, ?checkDone, ?checkLate⟩⟩
  case issue =>
    rintro (hr | hr) hp
    · rw [step_micro hturn ho hw (rom_eq_retry.mpr hr), execMicro, microRetry, if_pos hp]
      rfl
    · rw [step_micro hturn ho hw (rom_eq_abort.mpr hr), execMicro, microAbort, if_pos hp]
      rfl
  case restart =>
    intro hr hp
    rw [step_micro hturn ho hw (rom_eq_retry.mpr hr), execMicro, microRetry, if_neg (not_not.mpr hp)]
    rfl
  case finish =>
    intro hr hp
    rw [step_micro hturn ho hw (rom_eq_abort.mpr hr), execMicro, microAbort, if_neg (not_not.mpr hp)]
    rfl
  case checkRestart =>
    intro hr hs
    rw [checkStatus_of_retry hr, checkRetry, if_pos (code_injective (b := .idle) hs), goto]
  case checkTimeout =>
    intro hr hs
    have hs : s.status = .busTimeout := code_injective hs
    rw [checkStatus_of_retry hr, checkRetry, if_neg (by rw [hs]; decide), abortWith_eq_record]
  case checkDone =>
    intro hr hs
    have hs : s.status = .idle := code_injective hs
    rw [checkStatus_of_abort hr, checkAbort, if_neg (by rw [hs]; decide)]
  case checkLate =>
    intro hr hs herr
    rw [checkStatus_of_abort hr, checkAbort, if_pos (code_injective (b := .busTimeout) hs), setErr_of_err herr]

/-! ### The status check of a ROM row -/

/-- The micro-ops that issue a primitive and the codes `expected(r)` lists for them, as O32 writes them (R204). -/
abbrev ExpectsCodes (m : MicroOp) (expected : List Byte) : Prop :=
  ((∃ h, m = .start h) ∧ expected = [0x08#8, 0x10#8]) ∨
    (∃ a, m = .addr a ∧ expected = (if a.getLsbD 0 then [0x40#8] else [0x18#8])) ∨
    ((∃ b, m = .write b) ∧ expected = [0x28#8]) ∨
    (∃ k ack, m = .read k ack ∧ expected = (if ack then [0x50#8] else [0x58#8])) ∨
    (m = .stop ∧ expected = [0xF8#8])

theorem expectedStatus_iff_code {m : MicroOp} {expected : List Byte} (h : ExpectsCodes m expected) (st : BusStatus) :
    expectedStatus m st = true ↔ st.code ∈ expected := by
  rcases h with ⟨⟨head, rfl⟩, rfl⟩ | ⟨a, rfl, rfl⟩ | ⟨⟨b, rfl⟩, rfl⟩ | ⟨k, ack, rfl, rfl⟩ | ⟨rfl, rfl⟩
  case inr.inl =>
    change _ ↔ st.code ∈ (if dirRead a then [0x40#8] else [0x18#8])
    cases hd : dirRead a <;> cases st <;> simp [expectedStatus, hd, BusStatus.code]
  case inr.inr.inr.inl => cases ack <;> cases st <;> simp [expectedStatus, BusStatus.code]
  all_goals cases st <;> simp [expectedStatus, BusStatus.code]

theorem ne_internal_of_expectsCodes {m : MicroOp} {expected : List Byte} (h : ExpectsCodes m expected) :
    m ≠ .retry ∧ m ≠ .abort := by
  rcases h with ⟨⟨head, rfl⟩, -⟩ | ⟨a, rfl, -⟩ | ⟨⟨b, rfl⟩, -⟩ | ⟨k, ack, rfl, -⟩ | ⟨rfl, -⟩ <;> simp

/-- Settles O32: `checkRow` on an expected status, and on the five that it names. -/
theorem statusCheckActsInTheFirstCase : Obligations.StatusCheckActsInTheFirstCase := by
  intro s m expected hm hexp
  obtain ⟨hretry, habort⟩ := ne_internal_of_expectsCodes hexp
  rw [checkStatus_of_row hm hretry habort, ← expectedStatus_iff_code hexp]
  refine ⟨fun h => ⟨fun k ack e => ?read, fun hne => ?other⟩, fun h => ?unexpected⟩
  case read => subst e; rw [checkRow, if_pos h]; rfl
  case other =>
    rw [checkRow, if_pos h]
    cases m
    case read k ack => exact absurd rfl (hne k ack)
    all_goals rfl
  case unexpected =>
    obtain ⟨hnack, hdata, harb, htime⟩ := checkRow_of_unexpected (Bool.not_eq_true _ ▸ h)
    refine ⟨fun hs => hnack (hs.imp code_injective code_injective), fun hs => ?_, fun hs => ?_, fun hs => ?_⟩
    · rw [hdata (code_injective hs), abortWith_eq_record]
    · rw [harb (code_injective hs), abortWith_eq_record]
    · rw [htime (code_injective hs), abortWith_eq_record]

/-- Settles O33: in a coherent state the primitive is its row's, an admitted outcome has a row of R158, and
`status_of_issued` lists the statuses of such rows. -/
theorem statusCheckIsTotal : Obligations.StatusCheckIsTotal := by
  intro s p o m hinv hs hm hretry habort hstall hadmits
  have h := (inv_iff_coherent s).mp hinv
  have hrun : Running s := h.mode.resolve_left fun hrest => hrest.notSeq p hs
  obtain ⟨-, -, -, hissued⟩ := hrun.flight p hs
  have hissued := ((issuedAtRow_of_rom hm p).mp hissued).1
  obtain ⟨c, hc⟩ := completionRow_of_admits hadmits hstall (dirRead s.data)
  rw [complete_of_row hc]
  rcases status_of_issued hissued (completionRow_fits hc).status hretry habort with e | ⟨e | e, -⟩ | e | e | e
  · exact .inl e
  all_goals exact .inr (by simp [e, BusStatus.code])

/-- Settles O51: a running sequence holds BUSY, and BUSY drops every command but NOP. -/
theorem runningSequenceDropsCommands : Obligations.RunningSequenceDropsCommands := by
  intro s i hinv hk hi
  have h := (inv_iff_coherent s).mp hinv
  have hrun : Running s := h.mode.resolve_left fun hrest => hk hrest.kind
  exact ⟨exec_of_busy hrun.stands.busy hi, hrun.stands.busy⟩

end Sys2Proof.Machine
end

section
/-! What a step changes, field by field: of the host's writes (spec/20_memory.md R84 to R92), of the micro-ops, status
checks and completions of the core (spec/41_sequencer.md, spec/40_i2c_master.md), and so of one step. -/

namespace Sys2Proof.Machine

/-! ### A host write, by the register it reaches -/

/-- The ways a host write changes the state (R84 to R92). -/
inductive WriteStep (off : Offset) (v : Word) (s : State) : State → Prop
  | command (t : State) (hr : regAt off = some .cmd) (hc : CommandStep (decode v) s t) : WriteStep off v s t
  | dropped (r : Reg) (hr : regAt off = some r) (hg : guardedReg r = true) (hb : s.busy = true) :
      WriteStep off v s (overrun s)
  | csr (hr : regAt off = some .csr) : WriteStep off v s (writeCsr v s)
  | data (hr : regAt off = some .data) (hb : s.busy = false) : WriteStep off v s (writeData v s)
  | div (hr : regAt off = some .div) (hb : s.busy = false) : WriteStep off v s (writeDiv v s)
  | cfg (hr : regAt off = some .cfg) (hb : s.busy = false) : WriteStep off v s (writeCfg v s)
  | raw (r : Reg) (k : Fin 6) (hr : regAt off = some r) (hk : rawIndex r = some k) (hb : s.busy = false) :
      WriteStep off v s (writeRaw k v s)
  | ignored : WriteStep off v s s

theorem writeReg_writeStep {off : Offset} {r : Reg} (hr : regAt off = some r) (v : Word) (s : State) :
    WriteStep off v s (writeReg v r s) := by
  cases hb : s.busy with
  | true =>
    by_cases hg : guardedReg r = true
    · rw [writeReg_guarded_of_busy hb hg]
      exact .dropped r hr hg hb
    · by_cases hc : r = .csr
      · subst hc
        exact .csr hr
      · rw [writeReg_of_not_guarded (Bool.not_eq_true _ ▸ hg) hc]
        exact .ignored
  | false =>
    cases r
    case csr => exact .csr hr
    case data => rw [writeReg, unlessBusy_of_idle hb]; exact .data hr hb
    case div => rw [writeReg, unlessBusy_of_idle hb]; exact .div hr hb
    case cfg => rw [writeReg, unlessBusy_of_idle hb]; exact .cfg hr hb
    case raw0 | raw1 | raw2 | raw3 | raw4 | raw5 => rw [writeReg_raw_of_idle hb rfl]; exact .raw _ _ hr rfl hb
    all_goals exact .ignored

theorem memWrite_writeStep {off : Offset} {v : Word} {s t : State} (h : memWrite off v s = .next t) :
    WriteStep off v s t := by
  rcases memWrite_next h with ⟨hr, hc⟩ | ⟨r, hr, -, rfl⟩ | ⟨-, rfl⟩
  · exact .command _ hr hc
  · exact writeReg_writeStep hr v s
  · exact .ignored

/-! ### One step, by the agent that moves -/

/-- What one step from `s` to `t` is: a reset, a cycle of the core, a host write, or a host turn that no register sees.
The core and the write act on `s` with the turn taken. -/
inductive StepKind (s t : State) : Prop
  | rst (u : State) (ht : (takeTurn s).1 = .rst) (e : t = resetCycle u)
  | clock (a : Option BusOutcome) (ts : List Turn) (u : State) (ht : (takeTurn s).1 = .clock a)
      (hc : CoreStep a { s with turns := ts, taken := s.taken + 1 } u) (e : t = countDelay u)
  | write (off : Offset) (v : Word) (ls : List HostLine) (ts : List Turn) (hh : hostWrites s off v)
      (hw : WriteStep off v { s with host := ls, turns := ts, taken := s.taken + 1 } t)
  | quiet (rd : Word) (ls : List HostLine) (d : Nat) (ts : List Turn) (ht : (takeTurn s).1 = .host)
      (e : t = { s with rdata := rd, host := ls, hostDelay := d, turns := ts, taken := s.taken + 1 })

theorem step_kind {s t : State} (h : step s = .next t) : StepKind s t := by
  obtain ⟨ts, s', rfl, hcase⟩ := step_next_cases h
  rcases hcase with ⟨ht, e⟩ | ⟨a, u, ht, hc, e⟩ | ⟨off, v, rest, ht, hd, hh, hw⟩ | ⟨ht, rd, ls, d, e⟩
  · exact .rst _ ht e
  · exact .clock a ts u ht hc e
  · exact .write off v rest ts ⟨ht, hd, rest, hh⟩ (memWrite_writeStep hw)
  · exact .quiet rd ls d ts ht e

/-! ### What the core leaves alone -/

theorem microStep_config {m : MicroOp} {s t : State} (h : MicroStep m s t) :
    t.ovr = s.ovr ∧ t.div = s.div ∧ t.busyRetries = s.busyRetries ∧ t.nackRetries = s.nackRetries
    ∧ t.timeoutMs = s.timeoutMs ∧ t.phase = s.phase := by
  cases h <;> simp

/-- A completed primitive of a sequence, through its check: what the check and the completion leave alone, and that
`op_state` is Idle. -/
theorem seqStep_frame {p : Prim} {o : BusOutcome} {s t : State}
    (h : CheckStep { complete p o (countTimeout s) with opState := .idle } t) :
    t.ovr = s.ovr ∧ t.div = s.div ∧ t.busyRetries = s.busyRetries ∧ t.nackRetries = s.nackRetries
    ∧ t.timeoutMs = s.timeoutMs ∧ t.sstat = s.sstat ∧ t.raw = s.raw ∧ t.attempts = s.attempts ∧ t.opState = .idle
    ∧ t.data = (complete p o (countTimeout s)).data := by
  obtain ⟨-, hdata, hovr, hdiv, hbr, hnr, htm, hop, hss, hraw, -, -, -, hatt, -, -⟩ := checkStep_frame h
  obtain ⟨kovr, kdiv, kbr, knr, ktm, kss, kraw, -, -, -, -, -, -, katt, -⟩ := complete_keeps p o (countTimeout s)
  exact ⟨hovr.trans kovr, hdiv.trans kdiv, hbr.trans kbr, hnr.trans knr, htm.trans ktm, hss.trans kss, hraw.trans kraw,
    hatt.trans katt, hop, hdata⟩

/-- No cycle of the core writes OVR, DIV or CFG (R35, R42, R43). -/
theorem coreStep_config {a : Option BusOutcome} {s t : State} (h : CoreStep a s t) :
    t.ovr = s.ovr ∧ t.div = s.div ∧ t.busyRetries = s.busyRetries ∧ t.nackRetries = s.nackRetries
    ∧ t.timeoutMs = s.timeoutMs := by
  cases h with
  | host p o =>
    obtain ⟨kovr, kdiv, kbr, knr, ktm, -⟩ := complete_keeps p o (countTimeout s)
    exact ⟨kovr, kdiv, kbr, knr, ktm⟩
  | seq p o t hs ho ha hc =>
    obtain ⟨hovr, hdiv, hbr, hnr, htm, -⟩ := seqStep_frame hc
    exact ⟨hovr, hdiv, hbr, hnr, htm⟩
  | micro m t hs hw hm ht =>
    obtain ⟨hovr, hdiv, hbr, hnr, htm, -⟩ := microStep_config ht
    exact ⟨hovr, hdiv, hbr, hnr, htm⟩
  | _ => exact ⟨rfl, rfl, rfl, rfl, rfl⟩

/-! ### OVR, DIV and CFG -/

/-- A command sets OVR or leaves the configuration alone (R89). -/
theorem commandStep_config {i : Instr} {s t : State} (h : CommandStep i s t) :
    t.div = s.div ∧ t.busyRetries = s.busyRetries ∧ t.nackRetries = s.nackRetries ∧ t.timeoutMs = s.timeoutMs
    ∧ (t.ovr = s.ovr ∨ (t.ovr = true ∧ s.busy = true ∧ i ≠ .nop)) := by
  cases h with
  | dropped hb hi => exact ⟨rfl, rfl, rfl, rfl, .inr ⟨rfl, hb, hi⟩⟩
  | _ => exact ⟨rfl, rfl, rfl, rfl, .inl rfl⟩

/-- Settles O17: of the step's kinds only a reset, a CSR write and a dropped write reach OVR. -/
theorem ovrChangesOnlyAsStated : Obligations.OvrChangesOnlyAsStated := by
  intro s t hstep hne
  cases step_kind hstep with
  | rst u ht => exact .inl ht
  | clock a ts u ht hc e => exact absurd (e ▸ (coreStep_config hc).1) hne
  | quiet rd ls d ts ht e => exact absurd (e ▸ rfl) hne
  | write off v ls ts hh hw =>
    cases hw with
    | command t hr hc =>
      obtain ⟨-, -, -, -, hovr⟩ := commandStep_config hc
      obtain ⟨ht, hb, hi⟩ := hovr.resolve_left hne
      exact .inr (.inr ⟨ht, hb, off, v, .cmd, hh, hr, .inl ⟨rfl, fun hop => hi ((decode_eq_nop_iff v).mpr hop)⟩⟩)
    | dropped r hr hg hb => exact .inr (.inr ⟨rfl, hb, off, v, r, hh, hr, .inr hg⟩)
    | csr hr =>
      cases hbit : csrClearsOvr v with
      | true => exact .inr (.inl ⟨by rw [writeCsr_ovr, hbit, Bool.not_true, Bool.and_false], off, v, hh, hr, hbit⟩)
      | false => exact absurd (by rw [writeCsr_ovr, hbit, Bool.not_false, Bool.and_true]) hne
    | _ => exact absurd rfl hne

/-- Settles O18: of the step's kinds only a reset and an undropped write to DIV or CFG reach them. -/
theorem configurationChangesOnlyByHostWrites : Obligations.ConfigurationChangesOnlyByHostWrites := by
  intro s t hstep
  cases step_kind hstep with
  | rst u ht => exact ⟨fun _ => .inl ht, fun _ => .inl ht⟩
  | clock a ts u ht hc e =>
    obtain ⟨-, hdiv, hcfg⟩ := coreStep_config hc
    exact ⟨fun hne => absurd (e ▸ hdiv) hne, fun hne => absurd (e ▸ hcfg) hne⟩
  | quiet rd ls d ts ht e => exact ⟨fun hne => absurd (e ▸ rfl) hne, fun hne => absurd (e ▸ ⟨rfl, rfl, rfl⟩) hne⟩
  | write off v ls ts hh hw =>
    cases hw with
    | command t hr hc =>
      obtain ⟨hdiv, hbr, hnr, htm, -⟩ := commandStep_config hc
      exact ⟨fun hne => absurd hdiv hne, fun hne => absurd ⟨hbr, hnr, htm⟩ hne⟩
    | div hr hb => exact ⟨fun _ => .inr ⟨hb, off, v, hh, hr⟩, fun hne => absurd ⟨rfl, rfl, rfl⟩ hne⟩
    | cfg hr hb => exact ⟨fun hne => absurd rfl hne, fun _ => .inr ⟨hb, off, v, hh, hr⟩⟩
    | _ => exact ⟨fun hne => absurd rfl hne, fun hne => absurd ⟨rfl, rfl, rfl⟩ hne⟩

end Sys2Proof.Machine
end

section
/-! What alone changes PHASE, STATUS, DONE, DATA, SSTAT, ATTEMPTS, VALID, RAW and ERR (spec/10_state.md R34 to R48). -/

namespace Sys2Proof.Machine

/-! ### Completions and checks -/

/-- `Complete` changes DATA only where a READ received the byte (R41, R158). -/
theorem complete_data {p : Prim} {o : BusOutcome} {s : State} (hne : (complete p o s).data ≠ s.data) :
    ∃ ack b, p = .read ack ∧ o = .byte b ∧ (complete p o s).data = b := by
  unfold complete at hne ⊢
  split
  · next c hc =>
    cases hb : c.received with
    | none => simp [hc, hb] at hne
    | some b =>
      obtain ⟨⟨ack, hp⟩, ho⟩ := (completionRow_fits hc).received b hb
      exact ⟨ack, b, hp, ho, rfl⟩
  · next hc => simp [hc] at hne

/-- A status check writes DONE only by finishing the sequence, at ABORT (R220). -/
theorem checkStep_done {s t : State} (h : CheckStep s t) :
    t.done = s.done ∨ (s.upc = 62#6 ∧ t.done = true ∧ t.busy = false ∧ t.seqkind = .none ∧ t.upc = 63#6) := by
  cases h with
  | done hr | doneLate hr => exact .inr ⟨hr, rfl, rfl, rfl, rfl⟩
  | abort => exact .inl (by simp)
  | _ => exact .inl rfl

/-- A status check raises VALID only by finishing a SEQ_MEASURE with ERR = 0, and does not lower it (R37, R221). -/
theorem checkStep_valid {s t : State} (h : CheckStep s t) :
    t.valid = s.valid ∨ (t.valid = true ∧ s.seqkind = .measure ∧ t.seqkind = .none ∧ t.err = .ok ∧ t.busy = false
      ∧ t.done = true) := by
  have hfinish : ∀ u : State, (finish u).valid = u.valid ∨ ((finish u).valid = true ∧ u.seqkind = .measure
      ∧ u.err = .ok) := by
    intro u
    by_cases hm : u.seqkind = .measure ∧ u.err = .ok
    · exact .inr ⟨if_pos hm, hm⟩
    · exact .inl (if_neg hm)
  cases h with
  | done hr =>
    refine (hfinish s).imp id fun ⟨hv, hk, he⟩ => ⟨hv, hk, rfl, he, rfl, rfl⟩
  | doneLate hr =>
    refine (hfinish (setErr .busTimeout s)).imp (by simp) fun ⟨hv, hk, he⟩ => ?_
    exact ⟨hv, by simpa using hk, rfl, he, rfl, rfl⟩
  | abort => exact .inl (by simp)
  | _ => exact .inl rfl

/-- A status check writes ERR only while it is 0, and never REJECTED (R45, R204). -/
theorem checkStep_err {s t : State} (h : CheckStep s t) :
    t.err = s.err ∨ (s.err = .ok ∧ t.err ≠ .rejected) := by
  have hset : ∀ e : ErrKind, e ≠ .rejected →
      (setErr e s).err = s.err ∨ (s.err = .ok ∧ (setErr e s).err ≠ .rejected) := by
    intro e he
    by_cases hok : s.err = .ok
    · exact .inr ⟨hok, by rw [setErr_err, if_pos hok]; exact he⟩
    · exact .inl (by rw [setErr_err, if_neg hok])
  cases h with
  | abort hr e he =>
    have he : e ≠ .rejected := by rcases he with rfl | rfl | rfl | rfl <;> decide
    simpa using hset e he
  | doneLate => exact hset .busTimeout (by decide)
  | _ => exact .inl rfl

/-! ### Micro-ops -/

theorem microStep_status {m : MicroOp} {s t : State} (h : MicroStep m s t) :
    t.status = s.status ∨ (m = .stop ∧ s.phase = .idle ∧ t.status = .idle) := by
  cases h with
  | idleStop hm hp => exact .inr ⟨hm, hp, rfl⟩
  | busy => exact .inl (by simp)
  | _ => exact .inl rfl

theorem microStep_done {m : MicroOp} {s t : State} (h : MicroStep m s t) :
    t.done = s.done
    ∨ ((m = .endSeq ∨ m = .abort) ∧ t.done = true ∧ t.busy = false ∧ t.seqkind = .none ∧ t.upc = 63#6) := by
  cases h with
  | finish hm => exact .inr ⟨hm.imp_right And.left, rfl, rfl, rfl, rfl⟩
  | busy => exact .inl (by simp)
  | _ => exact .inl rfl

theorem microStep_data {m : MicroOp} {s t : State} (h : MicroStep m s t) :
    t.data = s.data ∨ m = .addr t.data ∨ m = .write t.data := by
  cases h with
  | addr a hm => exact .inr (.inl hm)
  | write b hm => exact .inr (.inr hm)
  | busy => exact .inl (by simp)
  | _ => exact .inl rfl

theorem microStep_sstat {m : MicroOp} {s t : State} (h : MicroStep m s t) :
    t.sstat = s.sstat ∨ (m = .setstat ∧ t.sstat = s.buf.b0) := by
  cases h with
  | setstat hm => exact .inr ⟨hm, rfl⟩
  | busy => exact .inl (by simp)
  | _ => exact .inl rfl

/-- COMMIT alone writes RAW and ATTEMPTS, both at once (R213). -/
theorem microStep_commit {m : MicroOp} {s t : State} (h : MicroStep m s t) :
    (t.raw = s.raw ∧ t.attempts = s.attempts) ∨ (m = .commit ∧ t.raw = s.buf ∧ t.attempts = s.attempts + 1#9) := by
  cases h with
  | commit hm => exact .inr ⟨hm, rfl, rfl⟩
  | busy => exact .inl (by simp)
  | _ => exact .inl ⟨rfl, rfl⟩

theorem microStep_valid {m : MicroOp} {s t : State} (h : MicroStep m s t) :
    t.valid = s.valid ∨ (t.valid = true ∧ s.seqkind = .measure ∧ t.seqkind = .none ∧ t.err = .ok ∧ t.busy = false
      ∧ t.done = true) := by
  cases h with
  | finish hm =>
    by_cases hv : s.seqkind = .measure ∧ s.err = .ok
    · exact .inr ⟨if_pos hv, hv.1, rfl, hv.2, rfl, rfl⟩
    · exact .inl (if_neg hv)
  | busy => exact .inl (by simp)
  | _ => exact .inl rfl

theorem microStep_err {m : MicroOp} {s t : State} (h : MicroStep m s t) :
    t.err = s.err ∨ (s.err = .ok ∧ t.err ≠ .rejected) := by
  cases h with
  | busy =>
    by_cases hok : s.err = .ok
    · exact .inr ⟨hok, by simp [hok]⟩
    · exact .inl (by simp [hok])
  | _ => exact .inl rfl

/-! ### Cycles of the core -/

/-- A primitive was in flight before the cycle and `op_state` is Idle after it. -/
def completedIn (s t : State) : Prop := (∃ p origin, s.opState = .inFlight p origin) ∧ t.opState = .idle

theorem coreStep_phase {a : Option BusOutcome} {s t : State} (h : CoreStep a s t) :
    t.phase = s.phase ∨ completedIn s t := by
  cases h with
  | host p o hs => exact .inr ⟨⟨p, _, hs⟩, rfl⟩
  | seq p o t hs ho ha hc =>
    obtain ⟨-, -, -, -, -, -, -, -, hop, -⟩ := seqStep_frame hc
    exact .inr ⟨⟨p, _, hs⟩, hop⟩
  | micro m t hs hw hm ht =>
    obtain ⟨-, -, -, -, -, hp⟩ := microStep_config ht
    exact .inl hp
  | _ => exact .inl rfl

theorem coreStep_status {a : Option BusOutcome} {s t : State} (h : CoreStep a s t) :
    t.status = s.status ∨ completedIn s t
    ∨ (s.opState = .idle ∧ s.waiting = false ∧ rom s.upc = some .stop ∧ s.phase = .idle ∧ t.status = .idle) := by
  cases h with
  | host p o hs => exact .inr (.inl ⟨⟨p, _, hs⟩, rfl⟩)
  | seq p o t hs ho ha hc =>
    obtain ⟨-, -, -, -, -, -, -, -, hop, -⟩ := seqStep_frame hc
    exact .inr (.inl ⟨⟨p, _, hs⟩, hop⟩)
  | micro m t hs hw hm ht =>
    exact (microStep_status ht).imp_right fun ⟨e, hp, hst⟩ => .inr ⟨hs, hw, e ▸ hm, hp, hst⟩
  | _ => exact .inl rfl

/-- DONE rises in a cycle only with BUSY 0 after it: at the end of a host primitive, or of a sequence (R34). -/
theorem coreStep_done {a : Option BusOutcome} {s t : State} (h : CoreStep a s t) :
    t.done = s.done ∨ (t.done = true ∧ t.busy = false ∧
      (((∃ p, s.opState = .inFlight p .host) ∧ t.opState = .idle)
        ∨ ((rom s.upc = some .endSeq ∨ rom s.upc = some .abort) ∧ t.seqkind = .none ∧ t.upc = 63#6))) := by
  cases h with
  | host p o hs => exact .inr ⟨rfl, rfl, .inl ⟨⟨p, hs⟩, rfl⟩⟩
  | seq p o t hs ho ha hc =>
    obtain ⟨-, -, -, -, -, -, -, -, -, -, -, hdone, hupc, -⟩ := complete_keeps p o (countTimeout s)
    rcases checkStep_done hc with e | ⟨hr, hd, hb, hk, hu⟩
    · exact .inl (e.trans hdone)
    · exact .inr ⟨hd, hb, .inr ⟨.inr (rom_eq_abort.mpr (hupc.symm.trans hr)), hk, hu⟩⟩
  | micro m t hs hw hm ht =>
    refine (microStep_done ht).imp_right fun ⟨hlast, hd, hb, hk, hu⟩ => ⟨hd, hb, .inr ⟨?_, hk, hu⟩⟩
    rw [hm]
    exact hlast.imp (congrArg some) (congrArg some)
  | _ => exact .inl rfl

theorem coreStep_data {a : Option BusOutcome} {s t : State} (h : CoreStep a s t) :
    t.data = s.data
    ∨ (∃ ack origin b, s.opState = .inFlight (.read ack) origin ∧ a = some (.byte b) ∧ t.data = b)
    ∨ (s.opState = .idle ∧ s.waiting = false
      ∧ (rom s.upc = some (.addr t.data) ∨ rom s.upc = some (.write t.data))) := by
  have hreceived : ∀ p origin o, s.opState = .inFlight p origin →
      (o = .timeout ∧ s.tocnt = 1#32
        ∨ a = some o ∧ o ≠ .timeout ∧ admits Config.singleMaster p s.phase (s.tocnt ≠ 0#32) o = true) →
      t.data = (complete p o (countTimeout s)).data → t.data = s.data
        ∨ ∃ ack origin b, s.opState = .inFlight (.read ack) origin ∧ a = some (.byte b) ∧ t.data = b := by
    intro p origin o hs ha hd
    by_cases hsame : t.data = s.data
    · exact .inl hsame
    · obtain ⟨ack, b, rfl, rfl, hb⟩ := complete_data (s := countTimeout s) (hd ▸ hsame)
      rcases ha with ⟨e, -⟩ | ⟨e, -⟩
      · cases e
      · exact .inr ⟨ack, origin, b, hs, e, hd.trans hb⟩
  cases h with
  | host p o hs ho ha => exact (hreceived p _ o hs ha rfl).imp_right .inl
  | seq p o t hs ho ha hc =>
    obtain ⟨-, -, -, -, -, -, -, -, -, hd⟩ := seqStep_frame hc
    exact (hreceived p _ o hs ha hd).imp_right .inl
  | micro m t hs hw hm ht =>
    rw [hm]
    exact (microStep_data ht).imp_right fun e => .inr ⟨hs, hw, e.imp (congrArg some) (congrArg some)⟩
  | _ => exact .inl rfl

theorem coreStep_sstat {a : Option BusOutcome} {s t : State} (h : CoreStep a s t) :
    t.sstat = s.sstat
    ∨ (s.opState = .idle ∧ s.waiting = false ∧ rom s.upc = some .setstat ∧ t.sstat = s.buf.b0) := by
  cases h with
  | host p o =>
    obtain ⟨-, -, -, -, -, hss, -⟩ := complete_keeps p o (countTimeout s)
    exact .inl hss
  | seq p o t hs ho ha hc =>
    obtain ⟨-, -, -, -, -, hss, -⟩ := seqStep_frame hc
    exact .inl hss
  | micro m t hs hw hm ht => exact (microStep_sstat ht).imp_right fun ⟨e, hss⟩ => ⟨hs, hw, e ▸ hm, hss⟩
  | _ => exact .inl rfl

theorem coreStep_commit {a : Option BusOutcome} {s t : State} (h : CoreStep a s t) :
    (t.raw = s.raw ∧ t.attempts = s.attempts)
    ∨ (s.opState = .idle ∧ s.waiting = false ∧ rom s.upc = some .commit ∧ t.raw = s.buf
      ∧ t.attempts = s.attempts + 1#9) := by
  cases h with
  | host p o =>
    obtain ⟨-, -, -, -, -, -, hraw, -, -, -, -, -, -, hatt, -⟩ := complete_keeps p o (countTimeout s)
    exact .inl ⟨hraw, hatt⟩
  | seq p o t hs ho ha hc =>
    obtain ⟨-, -, -, -, -, -, hraw, hatt, -⟩ := seqStep_frame hc
    exact .inl ⟨hraw, hatt⟩
  | micro m t hs hw hm ht => exact (microStep_commit ht).imp_right fun ⟨e, hraw, hatt⟩ => ⟨hs, hw, e ▸ hm, hraw, hatt⟩
  | _ => exact .inl ⟨rfl, rfl⟩

theorem coreStep_valid {a : Option BusOutcome} {s t : State} (h : CoreStep a s t) :
    t.valid = s.valid ∨ (t.valid = true ∧ s.seqkind = .measure ∧ t.seqkind = .none ∧ t.err = .ok ∧ t.busy = false
      ∧ t.done = true) := by
  cases h with
  | host p o =>
    obtain ⟨-, -, -, -, -, -, -, hv, -⟩ := complete_keeps p o (countTimeout s)
    exact .inl hv
  | seq p o t hs ho ha hc =>
    obtain ⟨-, -, -, -, -, -, -, hv, -, hk, -⟩ := complete_keeps p o (countTimeout s)
    exact (checkStep_valid hc).imp (fun e => e.trans hv) fun ⟨hv', hk', hrest⟩ => ⟨hv', hk.symm.trans hk', hrest⟩
  | micro m t hs hw hm ht => exact microStep_valid ht
  | _ => exact .inl rfl

theorem coreStep_err {a : Option BusOutcome} {s t : State} (h : CoreStep a s t) :
    t.err = s.err ∨ (s.err = .ok ∧ t.err ≠ .rejected ∧ ∀ p, s.opState ≠ .inFlight p .host) := by
  cases h with
  | host p o =>
    obtain ⟨-, -, -, -, -, -, -, -, he, -⟩ := complete_keeps p o (countTimeout s)
    exact .inl he
  | seq p o t hs ho ha hc =>
    obtain ⟨-, -, -, -, -, -, -, -, he, -⟩ := complete_keeps p o (countTimeout s)
    exact (checkStep_err hc).imp (fun e => e.trans he)
      fun ⟨hok, hr⟩ => ⟨he.symm.trans hok, hr, fun q e => by simp [hs] at e⟩
  | micro m t hs hw hm ht =>
    exact (microStep_err ht).imp_right fun ⟨hok, hr⟩ => ⟨hok, hr, fun q e => by simp [hs] at e⟩
  | _ => exact .inl rfl

/-! ### Host writes -/

/-- A command writes STATUS only where it ends at once (R114, R115 c, d, f). -/
theorem commandStep_status {i : Instr} {s t : State} (h : CommandStep i s t) :
    t.status = s.status ∨ (s.busy = false ∧ ((t.status = .idle ∧ i = .stop ∧ s.phase = .idle) ∨
      (t.status = .illegal ∧ (isReserved i = true ∨ (∃ p, primitiveOf i = some p ∧ legal p s.phase = false)
        ∨ ∃ k, sequenceOf i = some k ∧ s.phase ≠ .idle)))) := by
  cases h with
  | illegal hb hi hr => exact .inr ⟨hb, .inr ⟨rfl, hr.imp_right .inl⟩⟩
  | idleStop hb hi hp => exact .inr ⟨hb, .inl ⟨rfl, hi, hp⟩⟩
  | rejected k hb hi hk hp => exact .inr ⟨hb, .inr ⟨rfl, .inr (.inr ⟨k, hk, hp⟩)⟩⟩
  | _ => exact .inl rfl

/-- A command clears DONE at its acceptance and sets it where it ends at once (R34). -/
theorem commandStep_done {i : Instr} {s t : State} (h : CommandStep i s t) :
    t.done = s.done ∨ (t.done = false ∧ s.busy = false ∧ t.busy = true ∧ i ≠ .nop)
    ∨ (t.done = true ∧ s.busy = false ∧ t.busy = false
      ∧ ((t.status = .idle ∧ i = .stop ∧ s.phase = .idle) ∨ t.status = .illegal)) := by
  cases h with
  | nop | dropped => exact .inl rfl
  | illegal hb | rejected _ hb => exact .inr (.inr ⟨rfl, hb, hb, .inr rfl⟩)
  | idleStop hb hi hp => exact .inr (.inr ⟨rfl, hb, hb, .inl ⟨rfl, hi, hp⟩⟩)
  | accepted p hb hi => exact .inr (.inl ⟨rfl, hb, rfl, hi⟩)
  | sequence k hk hb hi => exact .inr (.inl ⟨rfl, hb, rfl, hi⟩)

/-- The acceptance of a SEQ_MEASURE alone writes ATTEMPTS and VALID, which it clears (R37, R46). -/
theorem commandStep_measure {i : Instr} {s t : State} (h : CommandStep i s t) :
    (t.attempts = s.attempts ∧ t.valid = s.valid)
    ∨ (i = .seqMeasure ∧ s.busy = false ∧ s.phase = .idle ∧ t.attempts = 0#9 ∧ t.valid = false) := by
  cases h with
  | sequence k hk hb hi hi' hp =>
    by_cases hm : k = .measure
    · exact .inr ⟨(eq_seqMeasure_iff_of_sequence hi').mpr hm, hb, hp, if_pos hm, if_pos hm⟩
    · exact .inl ⟨if_neg hm, if_neg hm⟩
  | _ => exact .inl ⟨rfl, rfl⟩

/-- A command writes ERR only at the acceptance or rejection of a sequence (R45). -/
theorem commandStep_err {i : Instr} {s t : State} (h : CommandStep i s t) :
    t.err = s.err ∨ (s.busy = false ∧ (t.err = .ok ∨ t.err = .rejected) ∧ ∃ k, sequenceOf i = some k) := by
  cases h with
  | rejected k hb hi hk => exact .inr ⟨hb, .inr rfl, k, hk⟩
  | sequence k hk hb hi hk' => exact .inr ⟨hb, .inl rfl, k, hk'⟩
  | _ => exact .inl rfl

/-- What no command writes: PHASE, DATA, SSTAT and RAW (R115). -/
theorem commandStep_frame {i : Instr} {s t : State} (h : CommandStep i s t) :
    t.phase = s.phase ∧ t.data = s.data ∧ t.sstat = s.sstat ∧ t.raw = s.raw := by
  cases h <;> exact ⟨rfl, rfl, rfl, rfl⟩

/-- A host write leaves PHASE and SSTAT alone; a write that is no command leaves STATUS, DONE, BUSY, ERR and ATTEMPTS
alone too. -/
theorem writeStep_frame {off : Offset} {v : Word} {s t : State} (h : WriteStep off v s t) :
    t.phase = s.phase ∧ t.sstat = s.sstat ∧ ((regAt off = some .cmd ∧ CommandStep (decode v) s t) ∨
      (t.status = s.status ∧ t.done = s.done ∧ t.busy = s.busy ∧ t.err = s.err ∧ t.attempts = s.attempts)) := by
  cases h with
  | command t hr hc =>
    obtain ⟨hp, -, hss, -⟩ := commandStep_frame hc
    exact ⟨hp, hss, .inl ⟨hr, hc⟩⟩
  | _ => exact ⟨rfl, rfl, .inr ⟨rfl, rfl, rfl, rfl, rfl⟩⟩

/-- A host write only clears VALID: by a SEQ_MEASURE, or by a write to RAWk (R37). -/
theorem writeStep_valid {off : Offset} {v : Word} {s t : State} (h : WriteStep off v s t) :
    t.valid = s.valid ∨ (t.valid = false ∧ s.busy = false ∧
      ((regAt off = some .cmd ∧ decode v = .seqMeasure ∧ s.phase = .idle)
        ∨ ∃ r k, regAt off = some r ∧ rawIndex r = some k)) := by
  cases h with
  | command t hr hc =>
    rcases commandStep_measure hc with ⟨-, hv⟩ | ⟨hi, hb, hp, -, hv⟩
    · exact .inl hv
    · exact .inr ⟨hv, hb, .inl ⟨hr, hi, hp⟩⟩
  | raw r k hr hk hb => exact .inr ⟨rfl, hb, .inr ⟨r, k, hr, hk⟩⟩
  | _ => exact .inl rfl

/-! ### The statements -/

/-- Settles O28: per kind of step, `coreStep_phase`, `coreStep_status` and `coreStep_done` for a cycle,
`commandStep_status` and `commandStep_done` for a write to CMD. -/
theorem phaseStatusAndDoneChangeOnlyAsStated : Obligations.PhaseStatusAndDoneChangeOnlyAsStated := by
  intro s t hstep
  cases step_kind hstep with
  | rst u ht e =>
    subst e
    exact ⟨fun _ => .inl ht, fun _ => .inl ht, fun _ _ => .inl ht, fun _ hd => Bool.noConfusion hd⟩
  | quiet rd ls d ts ht e =>
    subst e
    exact ⟨fun h => absurd rfl h, fun h => absurd rfl h, fun h h' => absurd (h.symm.trans h') (by decide),
      fun h h' => absurd (h.symm.trans h') (by decide)⟩
  | clock a ts u ht hc e =>
    subst e
    refine ⟨fun h => ?phase, fun h => ?status, fun h h' => ?falls, fun h h' => ?rises⟩
    case phase => exact .inr ⟨⟨a, ht⟩, (coreStep_phase hc).resolve_left h⟩
    case status =>
      rcases (coreStep_status hc).resolve_left h with hdone | ⟨ho, hw, hm, hp, hst⟩
      · exact .inr (.inl ⟨⟨a, ht⟩, hdone⟩)
      · exact .inr (.inr (.inl ⟨⟨⟨a, ht⟩, ho, hw⟩, hm, hp, hst⟩))
    case falls =>
      have hne : u.done ≠ s.done := ne_of_eq_of_ne h' (by simp [h])
      obtain ⟨hd, -⟩ := (coreStep_done hc).resolve_left hne
      exact absurd (hd.symm.trans h') (by decide)
    case rises =>
      have hne : u.done ≠ s.done := ne_of_eq_of_ne h' (by simp [h])
      obtain ⟨-, hb, hcause⟩ := (coreStep_done hc).resolve_left hne
      exact ⟨hb, hcause.imp (fun hhost => ⟨⟨a, ht⟩, hhost⟩) fun hlast => .inl ⟨⟨a, ht⟩, hlast⟩⟩
  | write off v ls ts hh hw =>
    obtain ⟨hp, -, hcmd⟩ := writeStep_frame hw
    refine ⟨fun h => absurd hp h, fun h => ?status, fun h h' => ?falls, fun h h' => ?rises⟩
    case status =>
      obtain ⟨hr, hc⟩ := hcmd.resolve_right fun ⟨hst, _⟩ => h hst
      obtain ⟨hb, hcause⟩ := (commandStep_status hc).resolve_left h
      exact .inr (.inr (.inr ⟨hb, off, v, hh, hr, hcause⟩))
    case falls =>
      have hne : t.done ≠ s.done := ne_of_eq_of_ne h' (by simp [h])
      obtain ⟨hr, hc⟩ := hcmd.resolve_right fun ⟨_, hd, _⟩ => hne hd
      rcases (commandStep_done hc).resolve_left hne with ⟨-, hb, hb', hi⟩ | ⟨hd, -⟩
      · exact .inr ⟨hb, hb', off, v, hh, hr, hi⟩
      · exact absurd (hd.symm.trans h') (by decide)
    case rises =>
      have hne : t.done ≠ s.done := ne_of_eq_of_ne h' (by simp [h])
      obtain ⟨hr, hc⟩ := hcmd.resolve_right fun ⟨_, hd, _⟩ => hne hd
      rcases (commandStep_done hc).resolve_left hne with ⟨hd, -⟩ | ⟨-, hb, hb', hcause⟩
      · exact absurd (hd.symm.trans h') (by decide)
      · exact ⟨hb', .inr (.inr ⟨hb, off, v, hh, hr, hcause⟩)⟩

/-- Settles O29: `coreStep_data` for a cycle, and of the writes the one to DATA. -/
theorem dataChangesOnlyAsStated : Obligations.DataChangesOnlyAsStated := by
  intro s t hstep hne
  cases step_kind hstep with
  | rst u ht => exact .inl ht
  | quiet rd ls d ts ht e => exact absurd (e ▸ rfl) hne
  | clock a ts u ht hc e =>
    subst e
    rcases (coreStep_data hc).resolve_left hne with ⟨ack, origin, b, hs, rfl, hb⟩ | ⟨ho, hw, hm⟩
    · exact .inr (.inr (.inl ⟨ack, origin, b, hs, ht, hb⟩))
    · exact .inr (.inr (.inr ⟨⟨⟨a, ht⟩, ho, hw⟩, hm⟩))
  | write off v ls ts hh hw =>
    cases hw with
    | command t hr hc => exact absurd (commandStep_frame hc).2.1 hne
    | data hr hb => exact .inr (.inl ⟨hb, off, v, hh, hr, lowByte_eq_setWidth v⟩)
    | _ => exact absurd rfl hne

/-- Settles O36: the micro-op's step, and `coreStep_sstat`. -/
theorem sstatIsWrittenBySetstatAlone : Obligations.SstatIsWrittenBySetstatAlone := by
  refine ⟨fun s ts a hturn ho hw hm => ?_, fun s t hstep hne => ?_⟩
  · rw [step_micro hturn ho hw hm]
    rfl
  cases step_kind hstep with
  | rst u ht => exact .inl ht
  | quiet rd ls d ts ht e => exact absurd (e ▸ rfl) hne
  | clock a ts u ht hc e =>
    subst e
    obtain ⟨ho, hw, hm, hss⟩ := (coreStep_sstat hc).resolve_left hne
    exact .inr ⟨⟨⟨a, ht⟩, ho, hw⟩, hm, hss⟩
  | write off v ls ts hh hw => exact absurd (writeStep_frame hw).2.1 hne

/-- Settles O38: the micro-op's step, the bound on the count at COMMIT's row, and the causes of a change of ATTEMPTS. -/
theorem commitHandsOverTheReading : Obligations.CommitHandsOverTheReading := by
  refine ⟨fun s ts a hturn ho hw hm => ⟨?_, fun hinv => ?_⟩, fun s t hstep hne => ?_⟩
  · rw [step_micro hturn ho hw hm]
    rfl
  · have h := (inv_iff_coherent s).mp hinv
    have hrun : Running s := h.mode.resolve_left fun hrest => by
      rw [hrest.upc] at hm
      cases hm
    obtain ⟨hcount, hle⟩ := hrun.stands.commit_count hm
    have := s.busyRetries.isLt
    exact ⟨hcount, by omega⟩
  cases step_kind hstep with
  | rst u ht => exact .inl ht
  | quiet rd ls d ts ht e => exact absurd (e ▸ rfl) hne
  | clock a ts u ht hc e =>
    subst e
    obtain ⟨ho, hw, hm, -, hatt⟩ := (coreStep_commit hc).resolve_left fun ⟨_, hatt⟩ => hne hatt
    exact .inr (.inl ⟨⟨⟨a, ht⟩, ho, hw⟩, hm, hatt⟩)
  | write off v ls ts hh hw =>
    obtain ⟨-, -, hcmd⟩ := writeStep_frame hw
    obtain ⟨hr, hc⟩ := hcmd.resolve_right fun ⟨_, _, _, _, hatt⟩ => hne hatt
    obtain ⟨hi, hb, hp, hatt, -⟩ := (commandStep_measure hc).resolve_left fun ⟨hatt, _⟩ => hne hatt
    exact .inr (.inr ⟨hb, hp, hatt, off, v, hh, hr, hi⟩)

/-- Settles O42: VALID rises by `coreStep_valid` alone, and falls by a SEQ_MEASURE, a write to RAWk or a reset. -/
theorem validChangesOnlyAsStated : Obligations.ValidChangesOnlyAsStated := by
  intro s t hstep
  cases step_kind hstep with
  | rst u ht e =>
    subst e
    exact ⟨fun _ h => Bool.noConfusion h, fun _ _ => .inl ht⟩
  | quiet rd ls d ts ht e =>
    subst e
    exact ⟨fun h h' => absurd (h.symm.trans h') (by decide), fun h h' => absurd (h.symm.trans h') (by decide)⟩
  | clock a ts u ht hc e =>
    subst e
    refine ⟨fun h h' => ?rises, fun h h' => ?falls⟩
    case rises =>
      have hne : u.valid ≠ s.valid := ne_of_eq_of_ne h' (by simp [h])
      obtain ⟨-, hcause⟩ := (coreStep_valid hc).resolve_left hne
      exact hcause
    case falls =>
      have hne : u.valid ≠ s.valid := ne_of_eq_of_ne h' (by simp [h])
      obtain ⟨hv, -⟩ := (coreStep_valid hc).resolve_left hne
      exact absurd (hv.symm.trans h') (by decide)
  | write off v ls ts hh hw =>
    have hcause := writeStep_valid hw
    refine ⟨fun h h' => ?rises, fun h h' => ?falls⟩
    case rises =>
      have hne : t.valid ≠ s.valid := ne_of_eq_of_ne h' (by simp [h])
      obtain ⟨hv, -⟩ := hcause.resolve_left hne
      exact absurd (hv.symm.trans h') (by decide)
    case falls =>
      have hne : t.valid ≠ s.valid := ne_of_eq_of_ne h' (by simp [h])
      obtain ⟨-, hb, hcause⟩ := hcause.resolve_left hne
      exact .inr ⟨hb, off, v, hh, hcause⟩

/-- Settles O43: `coreStep_commit`, and of the writes those to RAWk. -/
theorem rawChangesOnlyAsStated : Obligations.RawChangesOnlyAsStated := by
  intro s t hstep hne
  cases step_kind hstep with
  | rst u ht => exact .inl ht
  | quiet rd ls d ts ht e => exact absurd (e ▸ rfl) hne
  | clock a ts u ht hc e =>
    subst e
    obtain ⟨ho, hw, hm, hraw, -⟩ := (coreStep_commit hc).resolve_left fun ⟨hraw, _⟩ => hne hraw
    exact .inr (.inl ⟨⟨⟨a, ht⟩, ho, hw⟩, hm, hraw⟩)
  | write off v ls ts hh hw =>
    cases hw with
    | command t hr hc => exact absurd (commandStep_frame hc).2.2.2 hne
    | raw r k hr hk hb =>
      exact .inr (.inr ⟨hb, rfl, off, v, r, k, hh, hr, hk, by rw [← lowByte_eq_setWidth]; rfl⟩)
    | _ => exact absurd rfl hne

/-- Settles O44: `coreStep_err`, and of the writes the sequence commands. -/
theorem errKeepsTheFirstError : Obligations.ErrKeepsTheFirstError := by
  intro s t hstep hne
  cases step_kind hstep with
  | rst u ht => exact .inl ht
  | quiet rd ls d ts ht e => exact absurd (e ▸ rfl) hne
  | clock a ts u ht hc e =>
    subst e
    obtain ⟨hok, hr, hhost⟩ := (coreStep_err hc).resolve_left hne
    exact .inr (.inr ⟨hok, hr, ⟨a, ht⟩, hhost⟩)
  | write off v ls ts hh hw =>
    obtain ⟨-, -, hcmd⟩ := writeStep_frame hw
    obtain ⟨hr, hc⟩ := hcmd.resolve_right fun ⟨_, _, _, he, _⟩ => hne he
    obtain ⟨hb, he, k, hk⟩ := (commandStep_err hc).resolve_left hne
    exact .inr (.inl ⟨hb, he, off, v, k, hh, hr, hk⟩)

end Sys2Proof.Machine
end

section
/-! The clock cycles of a primitive in flight and of a wait: completion, timeout, stall and the counters
(spec/40_i2c_master.md R154 to R172, spec/41_sequencer.md R210). -/

namespace Sys2Proof.Machine

/-! ### The outcomes R157 admits, by primitive -/

/-- What R157 admits of every primitive in every phase: TIMEOUT and STALL, as the loaded counter says. -/
theorem admits_timeout (single : Bool) (p : Prim) (ph : Phase) (armed : Bool) :
    admits single p ph armed .timeout = armed := by
  cases p <;> cases ph <;> rfl

theorem admits_start_iff {single armed : Bool} {ph : Phase} {o : BusOutcome} (ht : o ≠ .timeout) (hs : o ≠ .stall) :
    admits single .start ph armed o = true ↔ (ph = .idle ∧ o = .ok)
      ∨ ((ph = .tx ∨ ph = .rxend) ∧ (o = .ok ∨ (o = .arb ∧ single = false))) := by
  cases o <;> simp_all <;> cases ph <;> simp [admits]

theorem admits_addr_iff {single armed : Bool} {ph : Phase} {o : BusOutcome} (ht : o ≠ .timeout) (hs : o ≠ .stall) :
    admits single .addr ph armed o = true
      ↔ ph = .started ∧ (o = .ack ∨ o = .nack ∨ (o = .arb ∧ single = false)) := by
  cases o <;> simp_all <;> cases ph <;> simp [admits]

theorem admits_write_iff {single armed : Bool} {ph : Phase} {o : BusOutcome} (ht : o ≠ .timeout) (hs : o ≠ .stall) :
    admits single .write ph armed o = true
      ↔ ph = .tx ∧ (o = .ack ∨ o = .nack ∨ (o = .arb ∧ single = false)) := by
  cases o <;> simp_all <;> cases ph <;> simp [admits]

theorem admits_read_iff {single armed ack : Bool} {ph : Phase} {o : BusOutcome} (ht : o ≠ .timeout) (hs : o ≠ .stall) :
    admits single (.read ack) ph armed o = true
      ↔ ph = .rx ∧ ((∃ b, o = .byte b) ∨ (o = .arb ∧ single = false)) := by
  cases o <;> simp_all <;> cases ph <;> simp [admits]

theorem admits_stop_iff {single armed : Bool} {ph : Phase} {o : BusOutcome} (ht : o ≠ .timeout) (hs : o ≠ .stall) :
    admits single .stop ph armed o = true ↔ ph ≠ .idle ∧ o = .ok := by
  cases o <;> simp_all <;> cases ph <;> simp [admits]

/-- Settles O21: TIMEOUT and STALL are as the counter says, and each primitive has its own lines of the table. -/
theorem busOutcomesAreTheAdmittedSet : Obligations.BusOutcomesAreTheAdmittedSet := by
  intro single armed p ph o
  by_cases ht : o = .timeout
  · subst ht
    simp [admits_timeout]
  by_cases hs : o = .stall
  · subst hs
    simp [admits_stall]
  cases p with
  | start => simp [admits_start_iff ht hs, ht, hs]
  | addr => simp [admits_addr_iff ht hs, ht, hs]
  | write => simp [admits_write_iff ht hs, ht, hs]
  | read ack => simp [admits_read_iff ht hs, ht, hs]
  | stop => simp [admits_stop_iff ht hs, ht, hs]

/-! ### One cycle of a primitive in flight -/

theorem coreCycle_of_inFlight {s : State} {p : Prim} {origin : Origin} (hs : s.opState = .inFlight p origin)
    (answer : Option BusOutcome) : coreCycle answer s = inFlightCycle p origin answer s := by
  simp only [coreCycle, hs]

/-- An admitted outcome completes the primitive in the cycle of the answer. -/
theorem coreCycle_of_admits {s : State} {p : Prim} {origin : Origin} {o : BusOutcome}
    (hs : s.opState = .inFlight p origin) (ht : o ≠ .timeout) (hstall : o ≠ .stall)
    (ha : admits Config.singleMaster p s.phase (decide (s.tocnt ≠ 0#32)) o = true) :
    coreCycle (some o) s = completeInFlight p origin o (countTimeout s) := by
  have hb := busAnswer_of_admits ht ha
  rw [coreCycle_of_inFlight hs]
  rcases inFlightCycle_cases p origin (some o) s with ⟨h, -⟩ | ⟨o', -, h, e⟩ | ⟨h, -⟩ | ⟨h, -⟩
  · exact absurd (Option.some.inj (hb.symm.trans h)) hstall
  · rw [e, Option.some.inj (hb.symm.trans h)]
  · cases hb.symm.trans h
  · cases hb.symm.trans h

theorem countTimeout_of_zero {s : State} (h : s.tocnt = 0#32) : countTimeout s = s := by
  rw [countTimeout, if_pos h, ← h]

theorem countTimeout_of_ne_zero {s : State} (h : s.tocnt ≠ 0#32) :
    countTimeout s = { s with tocnt := s.tocnt - 1#32 } := by
  rw [countTimeout, if_neg h]

/-- A stall, with the timeout disabled (R171). -/
theorem coreCycle_of_stall {s : State} {p : Prim} {origin : Origin} (hs : s.opState = .inFlight p origin)
    (ht : s.tocnt = 0#32) : coreCycle (some .stall) s = stallCore s := by
  have hb : busAnswer p s (some .stall) = some .stall :=
    busAnswer_of_admits (by decide) (by rw [admits_stall]; simp [ht])
  rw [coreCycle_of_inFlight hs, inFlightCycle, hb, countTimeout_of_zero ht]

/-- A cycle without an answer: the counter goes down, and its end is the timeout (R170). -/
theorem coreCycle_unanswered {s : State} {p : Prim} {origin : Origin} (hs : s.opState = .inFlight p origin) :
    coreCycle none s
      = if s.tocnt = 1#32 then completeInFlight p origin .timeout (countTimeout s) else countTimeout s := by
  rw [coreCycle_of_inFlight hs]
  rfl

/-- A completion, by whoever issued the primitive, leaves `op_state` Idle, the counter as counted, and in STATUS, PHASE
and DATA what its row says (R154, R155, R158). -/
theorem completeInFlight_fields {s : State} {p : Prim} {origin : Origin} {o : BusOutcome} {c : Completion}
    (hc : completionRow p s.phase (dirRead s.data) o = some c) :
    (completeInFlight p origin o s).status = c.status ∧ (completeInFlight p origin o s).phase = c.phase
    ∧ (completeInFlight p origin o s).data = c.received.getD s.data ∧ (completeInFlight p origin o s).opState = .idle
    ∧ (completeInFlight p origin o s).tocnt = s.tocnt := by
  cases origin with
  | host =>
    rw [completeInFlight, completeHost, complete_of_row hc]
    exact ⟨rfl, rfl, rfl, rfl, rfl⟩
  | seq =>
    rw [completeInFlight, completeSeq, complete_of_row hc]
    obtain ⟨hph, hd, -, -, -, -, -, hop, -, -, hst, htc, -⟩ := checkStep_frame (checkStatus_step
      { s with status := c.status, phase := c.phase, data := c.received.getD s.data, opState := .idle })
    exact ⟨hst, hph, hd, hop, htc⟩

/-! ### Steps at a settled clock turn -/

/-- Settles O23: an admitted outcome has its row, and the cycle of the answer applies it. -/
theorem primitivesCompleteInOneStep : Obligations.PrimitivesCompleteInOneStep := by
  intro s ts p origin o hturn hs ht hstall hadmits
  obtain ⟨c, hc⟩ := completionRow_of_admits hadmits hstall (dirRead s.data)
  have hcycle : coreCycle (some o) (afterTurn ts s) = completeInFlight p origin o (countTimeout (afterTurn ts s)) :=
    coreCycle_of_admits hs ht hstall hadmits
  have hrow : complete p o (countTimeout (afterTurn ts s)) = _ := complete_of_row hc
  refine ⟨c, hc, fun horigin => ?host, fun horigin => ?seq⟩
  case host =>
    subst horigin
    rw [step_clock hturn, clockCycle]
    refine (congrArg (fun u => Host.Outcome.next (countDelay u)) hcycle).trans ?_
    rw [completeInFlight, completeHost, hrow]
    rfl
  case seq =>
    subst horigin
    have hcheck : coreCycle (some o) (afterTurn ts s) = checkStatus { afterTurn ts s with
        status := c.status
        phase := c.phase
        data := c.received.getD s.data
        opState := .idle
        tocnt := if s.tocnt = 0#32 then 0#32 else s.tocnt - 1#32 } := by
      rw [hcycle, completeInFlight, completeSeq, hrow]
      rfl
    refine ⟨_, step_clock hturn, congrArg countDelay hcheck, fun hr => ?_⟩
    have hkeep := checkStep_busy_done (checkStatus_step { afterTurn ts s with
      status := c.status
      phase := c.phase
      data := c.received.getD s.data
      opState := .idle
      tocnt := if s.tocnt = 0#32 then 0#32 else s.tocnt - 1#32 }) hr
    rw [← hcheck] at hkeep
    exact hkeep

/-- Settles O26: an admitted outcome is no stall while the counter is armed, its row is not the timeout's, and the
counter counts 1 down to 0. -/
theorem busWinsTheTieWithTheTimeout : Obligations.BusWinsTheTieWithTheTimeout := by
  intro s ts p origin o t hturn hs hone ht hadmits hstep
  have hstall : o ≠ .stall := by
    rintro rfl
    rw [admits_stall] at hadmits
    cases hadmits
  have harmed : admits Config.singleMaster p s.phase (decide (s.tocnt ≠ 0#32)) o = true := by
    rw [hone]
    exact hadmits
  obtain ⟨c, hc⟩ := completionRow_of_admits hadmits hstall (dirRead s.data)
  have hcycle : coreCycle (some o) (afterTurn ts s) = completeInFlight p origin o (countTimeout (afterTurn ts s)) :=
    coreCycle_of_admits hs ht hstall harmed
  obtain ⟨hst, hph, hd, hop, htc⟩ := completeInFlight_fields (s := countTimeout (afterTurn ts s)) (origin := origin) hc
  have hcount : (countTimeout (afterTurn ts s)).tocnt = 0#32 := by
    rw [countTimeout_tocnt]
    change (if s.tocnt = 0#32 then 0#32 else s.tocnt - 1#32) = 0#32
    rw [hone]
    decide
  rw [← hcycle] at hst hph hd hop htc
  rw [step_clock hturn] at hstep
  obtain rfl := (Host.Outcome.next.inj hstep).symm
  rw [complete_of_row hc]
  refine ⟨hst, hph, hd, fun e => ht ?_, hop, htc.trans hcount, fun horigin => ?_⟩
  · exact (completionRow_fits hc).timeout.mp (hst.symm.trans e)
  · subst horigin
    change (coreCycle (some o) (afterTurn ts s)).busy = false ∧ (coreCycle (some o) (afterTurn ts s)).done = true
    rw [hcycle]
    exact ⟨rfl, rfl⟩

/-! ### Stalled -/

/-- In Stalled the core's step changes nothing (R51). -/
theorem coreStep_of_stalled {a : Option BusOutcome} {s t : State} (h : CoreStep a s t) (hs : s.opState = .stalled) :
    t = s := by
  cases h with
  | stalled => rfl
  | stall p origin h | count p origin h | host p o h | seq p o t h | waited h | waits h | micro m t h | none h =>
    cases hs.symm.trans h

/-- While BUSY = 1 a host write reaches OVR at most (R89, R171). -/
theorem writeStep_of_busy {off : Offset} {v : Word} {s t : State} (h : WriteStep off v s t) (hb : s.busy = true) :
    ∃ ov, t = { s with ovr := ov } := by
  cases h with
  | command t hr hc =>
    cases hc with
    | nop => exact ⟨s.ovr, rfl⟩
    | dropped => exact ⟨true, rfl⟩
    | illegal hidle | idleStop hidle | accepted _ hidle | rejected _ hidle | sequence _ _ hidle =>
      cases hb.symm.trans hidle
  | dropped => exact ⟨true, rfl⟩
  | csr => exact ⟨_, rfl⟩
  | data hr hidle | div hr hidle | cfg hr hidle | raw r k hr hk hidle => cases hb.symm.trans hidle
  | ignored => exact ⟨s.ovr, rfl⟩

/-- Settles O27: the stall's cycle, the kinds of step from Stalled, and `exec_of_busy`. -/
theorem onlyResetLeavesAStall : Obligations.OnlyResetLeavesAStall := by
  refine ⟨fun s ts p origin hturn hs ht => ?_, fun s t hs hb hstep => ?_, fun s i _ hb hi => exec_of_busy hb hi⟩
  · have hcycle : coreCycle (some .stall) (afterTurn ts s) = stallCore (afterTurn ts s) := coreCycle_of_stall hs ht
    rw [step_clock hturn]
    exact congrArg (fun u => Host.Outcome.next (countDelay u)) hcycle
  · cases step_kind hstep with
    | rst u ht e =>
      subst e
      exact ⟨fun hne => absurd ht hne, fun _ => ⟨rfl, rfl⟩⟩
    | clock a ts u ht hc e =>
      subst e
      rw [coreStep_of_stalled hc hs]
      exact ⟨fun _ => ⟨s.ovr, s.rdata, s.host, s.hostDelay - 1, ts, rfl⟩, fun hrst => by cases ht.symm.trans hrst⟩
    | write off v ls ts hh hw =>
      obtain ⟨ov, rfl⟩ := writeStep_of_busy hw hb
      exact ⟨fun _ => ⟨ov, s.rdata, ls, s.hostDelay, ts, rfl⟩, fun hrst => by cases hh.1.symm.trans hrst⟩
    | quiet rd ls d ts ht e =>
      exact ⟨fun _ => ⟨s.ovr, rd, ls, d, ts, e⟩, fun hrst => by cases ht.symm.trans hrst⟩

/-! ### Runs of cycles -/

theorem runCycles_append (as bs : List (Option BusOutcome)) (s : State) :
    runCycles (as ++ bs) s = runCycles bs (runCycles as s) := by
  induction as generalizing s with
  | nil => rfl
  | cons a as ih => exact ih (clockCycle a s)

/-- An unanswered primitive with more than one cycle left is in flight with one less. -/
theorem clockCycle_counts {s : State} {p : Prim} {origin : Origin} (hs : s.opState = .inFlight p origin)
    (h0 : s.tocnt ≠ 0#32) (h1 : s.tocnt ≠ 1#32) :
    clockCycle none s = { s with tocnt := s.tocnt - 1#32, hostDelay := s.hostDelay - 1 } := by
  rw [clockCycle, coreCycle_unanswered hs, if_neg h1, countTimeout_of_ne_zero h0]
  rfl

theorem runCycles_counts {s : State} {p : Prim} {origin : Origin} (hs : s.opState = .inFlight p origin) (m : Nat)
    (hm : m < s.tocnt.toNat) : runCycles (List.replicate m none) s
      = { s with tocnt := s.tocnt - BitVec.ofNat 32 m, hostDelay := s.hostDelay - m } := by
  induction m generalizing s with
  | zero => simp [runCycles]
  | succ m ih =>
    have h0 : s.tocnt ≠ 0#32 := fun e => by simp [e] at hm
    have h1 : s.tocnt ≠ 1#32 := fun e => by simp [e] at hm
    have hcount : (s.tocnt - 1#32).toNat = s.tocnt.toNat - 1 := by bv_omega
    have hsum : s.tocnt - 1#32 - BitVec.ofNat 32 m = s.tocnt - BitVec.ofNat 32 (m + 1) := by
      rw [BitVec.sub_sub, BitVec.ofNat_add, BitVec.add_comm]
    rw [List.replicate_succ, runCycles, clockCycle_counts hs h0 h1]
    refine (ih (s := { s with tocnt := s.tocnt - 1#32, hostDelay := s.hostDelay - 1 }) hs ?_).trans ?_
    · simp only [hcount]
      omega
    · simp only [hsum, Nat.sub_sub, Nat.add_comm 1 m]

/-- The cycle in which the counter ends completes the primitive with BUS_TIMEOUT (R170). -/
theorem clockCycle_timeout {s : State} {p : Prim} {origin : Origin} (hs : s.opState = .inFlight p origin)
    (h1 : s.tocnt = 1#32) : clockCycle none s
      = countDelay (completeInFlight p origin .timeout { s with tocnt := 0#32 }) := by
  have hcount : countTimeout s = { s with tocnt := 0#32 } := by
    rw [countTimeout, h1]
    rfl
  rw [clockCycle, coreCycle_unanswered hs, if_pos h1, hcount]

/-! ### The status check does not see the host's DELAY -/

theorem setErr_hostDelay_comm (k : ErrKind) (s : State) (d : Nat) :
    setErr k { s with hostDelay := d } = { setErr k s with hostDelay := d } := by
  unfold setErr
  split <;> rfl

theorem abortWith_hostDelay_comm (k : ErrKind) (s : State) (d : Nat) :
    abortWith k { s with hostDelay := d } = { abortWith k s with hostDelay := d } := by
  rw [abortWith_eq, abortWith_eq, setErr_hostDelay_comm]
  rfl

/-- No row expects a timeout (R204, R218, R220). -/
theorem checkStatus_of_busTimeout {s : State} (h : s.status = .busTimeout) :
    checkStatus s = if s.upc = 62#6 then finish (setErr .busTimeout s)
      else if rom s.upc = none then s else abortWith .busTimeout s := by
  by_cases ha : s.upc = 62#6
  · rw [if_pos ha, checkStatus_of_abort ha, checkAbort, if_pos h]
  rw [if_neg ha]
  by_cases hr : s.upc = 61#6
  · rw [if_neg (by rw [rom_eq_retry.mpr hr]; simp), checkStatus_of_retry hr, checkRetry, if_neg (by rw [h]; decide)]
  cases hm : rom s.upc with
  | none => simp only [checkStatus, hm, if_true]
  | some m =>
    have hretry : m ≠ .retry := fun e => hr (rom_eq_retry.mp (e ▸ hm))
    have habort : m ≠ .abort := fun e => ha (rom_eq_abort.mp (e ▸ hm))
    have hexp : expectedStatus m s.status = false := by rw [h]; cases m <;> rfl
    rw [if_neg (by simp), checkStatus_of_row hm hretry habort, (checkRow_of_unexpected hexp).2.2.2 h]

theorem checkStatus_hostDelay_comm {s : State} (h : s.status = .busTimeout) (d : Nat) :
    checkStatus { s with hostDelay := d } = { checkStatus s with hostDelay := d } := by
  rw [checkStatus_of_busTimeout h, checkStatus_of_busTimeout (s := { s with hostDelay := d }) h,
    setErr_hostDelay_comm, abortWith_hostDelay_comm]
  split
  · rfl
  · split <;> rfl

/-! ### The timeout -/

/-- Settles O24: the counter falls by one in each cycle, and the cycle in which it ends completes the primitive. -/
theorem timeoutComesAfterExactlyTocntCycles : Obligations.TimeoutComesAfterExactlyTocntCycles := by
  intro s p origin n hs hn hpos
  obtain ⟨k, rfl⟩ : ∃ k, n = k + 1 := ⟨n - 1, by omega⟩
  have hlast : s.tocnt - BitVec.ofNat 32 k = 1#32 := by
    have := s.tocnt.isLt
    apply BitVec.eq_of_toNat_eq
    rw [BitVec.toNat_sub, BitVec.toNat_ofNat, BitVec.toNat_ofNat]
    omega
  have hdelay : s.hostDelay - k - 1 = s.hostDelay - (k + 1) := Nat.sub_sub _ _ _
  have hend : runCycles (List.replicate (k + 1) none) s = countDelay (completeInFlight p origin .timeout
      { s with tocnt := 0#32, hostDelay := s.hostDelay - k }) := by
    rw [List.replicate_succ', runCycles_append, runCycles_counts hs k (by omega)]
    exact clockCycle_timeout (s := { s with tocnt := s.tocnt - BitVec.ofNat 32 k, hostDelay := s.hostDelay - k }) hs
      hlast
  have hrow : complete p .timeout { s with tocnt := 0#32, hostDelay := s.hostDelay - k } = _ :=
    complete_of_row (completionRow_timeout p _ _)
  obtain ⟨hst, hph, hd, hop, htc⟩ := completeInFlight_fields (p := p) (origin := origin)
    (s := { s with tocnt := 0#32, hostDelay := s.hostDelay - k }) (completionRow_timeout p _ _)
  refine ⟨fun m hm => runCycles_counts hs m (by omega), ?_, fun horigin => ?_, fun horigin => ?_⟩
  · rw [hend]
    exact ⟨congrArg BusStatus.code hst, hph, hd, hop, htc⟩
  · rw [hend, horigin, completeInFlight, completeHost, hrow, ← hdelay]
    rfl
  · rw [hend, horigin, completeInFlight, completeSeq, hrow, ← hdelay]
    exact congrArg countDelay (checkStatus_hostDelay_comm
      (s := { s with status := .busTimeout, phase := .idle, opState := .idle, tocnt := 0#32 }) rfl (s.hostDelay - k))

/-- With the counter armed a cycle completes the primitive, or counts and leaves it in flight and armed (R170). -/
theorem clockCycle_armed {s : State} {p : Prim} {origin : Origin} (hs : s.opState = .inFlight p origin)
    (h0 : s.tocnt ≠ 0#32) (a : Option BusOutcome) :
    (clockCycle a s).opState = .idle
    ∨ (1 < s.tocnt.toNat ∧ (clockCycle a s).opState = .inFlight p origin
      ∧ (clockCycle a s).tocnt.toNat = s.tocnt.toNat - 1) := by
  have hcomplete : ∀ o c, completionRow p s.phase (dirRead s.data) o = some c →
      (completeInFlight p origin o (countTimeout s)).opState = .idle := fun o c hc =>
    (completeInFlight_fields (s := countTimeout s) hc).2.2.2.1
  rw [clockCycle, countDelay_opState, countDelay_tocnt, coreCycle_of_inFlight hs]
  rcases inFlightCycle_cases p origin a s with ⟨hb, -⟩ | ⟨o, ho, hb, e⟩ | ⟨-, -, e⟩ | ⟨-, h1, e⟩
  · obtain ⟨-, -, ha⟩ := busAnswer_some hb
    rw [admits_stall] at ha
    simp [h0] at ha
  · obtain ⟨-, -, ha⟩ := busAnswer_some hb
    obtain ⟨c, hc⟩ := completionRow_of_admits ha ho (dirRead s.data)
    rw [e]
    exact .inl (hcomplete o c hc)
  · rw [e]
    exact .inl (hcomplete _ _ (completionRow_timeout _ _ _))
  · rw [e, countTimeout_of_ne_zero h0]
    refine .inr ⟨by bv_omega, hs, ?_⟩
    show (s.tocnt - 1#32).toNat = _
    bv_omega

/-- Settles O25: `clockCycle_armed`, for as many cycles as the counter holds. -/
theorem noPrimitiveOutlivesItsTimeout : Obligations.NoPrimitiveOutlivesItsTimeout := by
  intro s p origin answers hs h0 hlen
  induction answers generalizing s with
  | nil => exact absurd (BitVec.eq_of_toNat_eq hlen.symm) h0
  | cons a as ih =>
    rw [List.length_cons] at hlen
    rcases clockCycle_armed hs h0 a with hidle | ⟨hgt, hs', hcount⟩
    · refine ⟨1, le_rfl, by omega, hidle, fun j hj => ?_⟩
      obtain rfl : j = 0 := by omega
      exact hs
    · have h0' : (clockCycle a s).tocnt ≠ 0#32 := fun e => by
        rw [e] at hcount
        have : (0#32).toNat = 0 := rfl
        omega
      obtain ⟨k, hk, hle, hidle, hbefore⟩ := ih (clockCycle a s) hs' h0' (by omega)
      refine ⟨k + 1, by omega, by omega, hidle, fun j hj => ?_⟩
      cases j with
      | zero => exact hs
      | succ j => exact hbefore j (by omega)

/-! ### Waits -/

theorem clockCycle_of_waiting {s : State} (ho : s.opState = .idle) (hw : s.waiting = true) (a : Option BusOutcome) :
    clockCycle a s = countDelay (waitCycle s) := by
  simp only [clockCycle, coreCycle, ho, hw, if_true]

/-- A wait with more cycles left than there are answers goes on, whatever they are (R210). -/
theorem runCycles_waits {s : State} (ho : s.opState = .idle) (hw : s.waiting = true)
    (answers : List (Option BusOutcome)) (hlen : answers.length < s.waitcnt.toNat) :
    runCycles answers s = { s with
      waitcnt := s.waitcnt - BitVec.ofNat 32 answers.length, hostDelay := s.hostDelay - answers.length } := by
  induction answers generalizing s with
  | nil => simp [runCycles]
  | cons a as ih =>
    rw [List.length_cons] at hlen
    have h1 : s.waitcnt ≠ 1#32 := fun e => by simp [e] at hlen
    have hcycle : waitCycle s = { s with waitcnt := s.waitcnt - 1#32 } := by
      rcases waitCycle_cases s with ⟨h, -⟩ | ⟨-, e⟩
      · exact absurd h h1
      · exact e
    have hcount : (s.waitcnt - 1#32).toNat = s.waitcnt.toNat - 1 := by bv_omega
    have hsum : s.waitcnt - 1#32 - BitVec.ofNat 32 as.length = s.waitcnt - BitVec.ofNat 32 (as.length + 1) := by
      rw [BitVec.sub_sub, BitVec.ofNat_add, BitVec.add_comm]
    rw [runCycles, clockCycle_of_waiting ho hw, hcycle, countDelay, List.length_cons]
    refine (ih (s := { s with waitcnt := s.waitcnt - 1#32, hostDelay := s.hostDelay - 1 }) ho hw ?_).trans ?_
    · simp only [hcount]
      omega
    · simp only [hsum, Nat.sub_sub, Nat.add_comm 1 as.length]

/-- The last cycle of a wait goes to the next row (R210). -/
theorem clockCycle_wait_ends {s : State} (ho : s.opState = .idle) (hw : s.waiting = true) (h1 : s.waitcnt = 1#32)
    (a : Option BusOutcome) : clockCycle a s = { s with
      waitcnt := 0#32, waiting := false, upc := s.upc + 1#6, hostDelay := s.hostDelay - 1 } := by
  rw [clockCycle_of_waiting ho hw]
  rcases waitCycle_cases s with ⟨-, e⟩ | ⟨h, -⟩
  · rw [e]
    rfl
  · exact absurd h1 h

/-- A wait ends in the cycle in which its counter does, at the next row (R210). -/
theorem runCycles_waited {s : State} (ho : s.opState = .idle) (hw : s.waiting = true)
    (answers : List (Option BusOutcome)) (hpos : 0 < s.waitcnt.toNat) (hlen : answers.length = s.waitcnt.toNat) :
    runCycles answers s = { s with
      waitcnt := 0#32, waiting := false, upc := s.upc + 1#6, hostDelay := s.hostDelay - answers.length } := by
  obtain ⟨as, a, rfl⟩ : ∃ as a, answers = as ++ [a] :=
    ⟨answers.dropLast, answers.getLast (by rintro rfl; simp at hlen; omega), (List.dropLast_append_getLast _).symm⟩
  rw [List.length_append, List.length_singleton] at hlen ⊢
  have hlast : s.waitcnt - BitVec.ofNat 32 as.length = 1#32 := by
    have := s.waitcnt.isLt
    apply BitVec.eq_of_toNat_eq
    rw [BitVec.toNat_sub, BitVec.toNat_ofNat, BitVec.toNat_ofNat]
    omega
  rw [runCycles_append, runCycles_waits ho hw as (by omega), runCycles, runCycles]
  refine (clockCycle_wait_ends (s := { s with
    waitcnt := s.waitcnt - BitVec.ofNat 32 as.length, hostDelay := s.hostDelay - as.length }) ho hw hlast a).trans ?_
  simp only [Nat.sub_sub]

/-- A micro-op's cycle (R202). -/
theorem coreCycle_of_micro {s : State} {m : MicroOp} (ho : s.opState = .idle) (hw : s.waiting = false)
    (hm : rom s.upc = some m) (a : Option BusOutcome) : coreCycle a s = execMicro m s := by
  rcases coreCycle_cases a s with ⟨p, origin, h, -⟩ | ⟨h, -⟩ | ⟨-, h, -⟩ | ⟨-, -, e⟩
  · cases ho.symm.trans h
  · cases ho.symm.trans h
  · cases hw.symm.trans h
  · simp only [e, sequencerStep, hm]

/-- A WAIT's entry step (R210). -/
theorem clockCycle_of_wait {s : State} {ms : Nat} (ho : s.opState = .idle) (hw : s.waiting = false)
    (hm : rom s.upc = some (.wait ms)) (a : Option BusOutcome) :
    clockCycle a s = countDelay (microWait ms s) := by
  rw [clockCycle, coreCycle_of_micro ho hw hm, execMicro]

/-- Settles O35: the entry step loads the counter, which `runCycles_waits` and `runCycles_waited` count down. -/
theorem waitLastsExactly : Obligations.WaitLastsExactly := by
  intro s ms answers ho hw hm
  obtain ⟨hpos, hms⟩ := wait_range hm
  have hload := waitLoad_toNat hms
  have hcycles : 0 < ms * Config.cyclesPerMs := Nat.mul_pos hpos cyclesPerMs_pos
  cases answers with
  | nil => exact ⟨fun h => absurd h (by decide), fun h => by simp at h⟩
  | cons a as =>
    rw [List.length_cons, runCycles, clockCycle_of_wait ho hw hm a]
    refine ⟨fun _ hle => ?_, fun hlen => ?_⟩
    · rw [runCycles_waits (s := countDelay (microWait ms s)) ho rfl as (show _ < (waitLoad ms).toNat by omega)]
      refine ⟨rfl, rfl, ?_⟩
      have hfits := load_fits hms
      show (waitLoad ms - BitVec.ofNat 32 as.length).toNat = _
      rw [BitVec.toNat_sub, BitVec.toNat_ofNat, hload]
      omega
    · rw [runCycles_waited (s := countDelay (microWait ms s)) ho rfl as (show 0 < (waitLoad ms).toNat by omega)
        (show _ = (waitLoad ms).toNat by omega), Nat.add_comm, ← Nat.sub_sub, ← hw]
      rfl

end Sys2Proof.Machine
end

section
/-! Runs of the micro-program in which the bus answers each primitive at once and acknowledges everything
(spec/41_sequencer.md R222 to R224). -/

namespace Sys2Proof.Machine

/-! ### A run and what the bus sees of it -/

theorem busSeen_append (as bs : List (Option BusOutcome)) (s : State) :
    busSeen (as ++ bs) s = busSeen as s ++ busSeen bs (runCycles as s) := by
  induction as generalizing s with
  | nil => rfl
  | cons a as ih => rw [List.cons_append, busSeen, busSeen, ih, List.append_assoc, runCycles]

/-- The cycles with the answers `as` lead from `s` to `t`, and the bus sees `acts` in them. -/
structure Runs (as : List (Option BusOutcome)) (s : State) (acts : List BusAction) (t : State) : Prop where
  state : runCycles as s = t
  seen : busSeen as s = acts

theorem Runs.refl (s : State) : Runs [] s [] s := ⟨rfl, rfl⟩

theorem Runs.trans {as bs : List (Option BusOutcome)} {s t u : State} {acts acts' : List BusAction}
    (h : Runs as s acts t) (h' : Runs bs t acts' u) : Runs (as ++ bs) s (acts ++ acts') u where
  state := by rw [runCycles_append, h.state, h'.state]
  seen := by rw [busSeen_append, h.seen, h.state, h'.seen]

/-- Cycles without an answer show the bus nothing new. -/
theorem busSeen_unanswered (n : Nat) (s : State) : busSeen (List.replicate n none) s = [] := by
  induction n generalizing s with
  | zero => rfl
  | succ n ih => rw [List.replicate_succ, busSeen, ih]; rfl

/-! ### One row -/

/-- The timeout counter after its load from CFG.TIMEOUT_MS and one count (R52, R170). -/
def countedLoad (timeoutMs : BitVec 8) : BitVec 32 :=
  let load := BitVec.ofNat 32 (timeoutMs.toNat * Config.cyclesPerMs)
  if load = 0#32 then 0#32 else load - 1#32

theorem tocntOnceCounted_eq (s : State) : tocntOnceCounted s = countedLoad s.timeoutMs := rfl

/-- A row is done: its primitive was issued and was answered in the next cycle with the expected status `st`. -/
def rowDone (st : BusStatus) (s : State) : State :=
  { s with
    status := st, phase := phaseOfStatus st, upc := s.upc + 1#6, tocnt := countedLoad s.timeoutMs
    hostDelay := s.hostDelay - 2 }

/-- A transaction opened in the state `s` with START at row `head` stands at row `r` after `n` cycles, with the status,
DATA and the buffer as given. -/
def standing (s : State) (head r : Row) (n : Nat) (st : BusStatus) (d : Byte) (buf : Reading) : State :=
  { s with
    status := st, phase := phaseOfStatus st, data := d, buf := buf, upc := r, txhead := head
    tocnt := countedLoad s.timeoutMs, hostDelay := s.hostDelay - n }

/-- A status the row expects is written, and the row is left for the next one, in one step (R155, R204). -/
theorem completeSeq_expected {s : State} {m : MicroOp} {p : Prim} {o : BusOutcome} {c : Completion}
    (hm : rom s.upc = some m) (hc : completionRow p s.phase (dirRead s.data) o = some c)
    (he : expectedStatus m c.status = true) :
    completeSeq p o s = nextRow (postAction m { s with
      status := c.status, phase := phaseOfStatus c.status, data := c.received.getD s.data, opState := .idle }) := by
  have hgo := goesOn_of_expected he
  have hretry : m ≠ .retry := by rintro rfl; cases hgo
  have habort : m ≠ .abort := by rintro rfl; cases hgo
  rw [completeSeq, complete_of_row hc, (completionRow_fits hc).phase]
  refine (checkStatus_of_row (m := m) ?_ hretry habort).trans ?_
  · exact hm
  · exact if_pos he

/-- The cycle in which the bus answers a row's primitive with a status the row expects. -/
theorem clockCycle_expected {s : State} {m : MicroOp} {p : Prim} {o : BusOutcome} {c : Completion}
    (ho : s.opState = .idle) (hm : rom s.upc = some m) (hc : completionRow p s.phase (dirRead s.data) o = some c)
    (ha : ∀ armed, admits Config.singleMaster p s.phase armed o = true) (he : expectedStatus m c.status = true) :
    clockCycle (some o) (countDelay (issue p s))
      = rowDone c.status (postAction m { s with data := c.received.getD s.data }) := by
  have ht : o ≠ .timeout := by
    rintro rfl
    exact absurd (ha false) (by rw [admits_timeout]; decide)
  have hstall : o ≠ .stall := by
    rintro rfl
    exact absurd (ha true) (by rw [admits_stall]; decide)
  have hcycle : coreCycle (some o) (countDelay (issue p s))
      = completeSeq p o { countDelay (issue p s) with tocnt := countedLoad s.timeoutMs } :=
    coreCycle_of_admits (s := countDelay (issue p s)) rfl ht hstall (ha _)
  have hrow := completeSeq_expected (s := { countDelay (issue p s) with tocnt := countedLoad s.timeoutMs }) hm hc he
  rw [clockCycle, hcycle, hrow, ← ho]
  cases m <;> rfl

/-- The row issues its primitive and the bus answers it with a status the row expects, a cycle each. `u` is the state
with what the micro-op writes beside the issue. -/
theorem Runs.row {as : List (Option BusOutcome)} {s₀ s : State} {acts : List BusAction} (h : Runs as s₀ acts s)
    {u : State} {ph : Phase} {m : MicroOp} {p : Prim} {o : BusOutcome} {c : Completion} {act : BusAction}
    (ho : s.opState = .idle) (hw : s.waiting = false) (hm : rom s.upc = some m) (hexec : execMicro m s = issue p u)
    (hu : u.upc = s.upc ∧ u.opState = s.opState) (hp : u.phase = ph)
    (hc : completionRow p ph (dirRead u.data) o = some c)
    (ha : ∀ armed, admits Config.singleMaster p ph armed o = true) (he : expectedStatus m c.status = true)
    (hact : onBus (issue p u) = some act) :
    Runs (as ++ answered [o]) s₀ (acts ++ [act])
      (rowDone c.status (postAction m { u with data := c.received.getD u.data })) := by
  subst hp
  have hissue : clockCycle none s = countDelay (issue p u) := by
    rw [clockCycle, coreCycle_of_micro ho hw hm, hexec]
  have hanswer := clockCycle_expected (hu.2.trans ho) (hu.1.symm ▸ hm) hc ha he
  have hseen : onBus (countDelay (issue p u)) = some act := hact
  refine h.trans ⟨?_, ?_⟩
  · change clockCycle (some o) (clockCycle none s) = _
    rw [hissue, hanswer]
  · change (onBus (clockCycle none s)).toList ++ [] = [act]
    rw [hissue, hseen]
    rfl

theorem onBus_issue_start {s : State} :
    onBus (issue .start s) = some (if s.phase = .idle then .start else .repeatedStart) := rfl

section
variable {as : List (Option BusOutcome)} {s₀ s : State} {acts : List BusAction} {head r : Row} {n : Nat}
  {st : BusStatus} {d : Byte} {buf : Reading}

theorem runs_start (ho : s.opState = .idle) (hw : s.waiting = false) (hp : s.phase = .idle)
    (hm : rom s.upc = some (.start true)) :
    Runs (answered [.ok]) s [.start] (standing s s.upc (s.upc + 1#6) 2 .startSent s.data s.buf) :=
  (Runs.refl s).row (u := { s with txhead := s.upc }) (c := ⟨.startSent, .started, none⟩) ho hw hm rfl ⟨rfl, rfl⟩ hp
    rfl (fun _ => rfl) rfl (onBus_issue_start.trans (congrArg some (if_pos hp)))

variable (h : Runs as s₀ acts (standing s head r n st d buf)) (ho : s.opState = .idle) (hw : s.waiting = false)

include h ho hw

theorem Runs.restart (hm : rom r = some (.start false)) (hp : phaseOfStatus st = .tx) :
    Runs (as ++ answered [.ok]) s₀ (acts ++ [.repeatedStart])
      (standing s head (r + 1#6) (n + 2) .restartSent d buf) :=
  h.row (u := standing s head r n st d buf) (c := ⟨.restartSent, .started, none⟩) ho hw hm rfl ⟨rfl, rfl⟩ hp rfl
    (fun _ => rfl) rfl (onBus_issue_start.trans (congrArg some (if_neg (show phaseOfStatus st ≠ .idle by simp [hp]))))

theorem Runs.addrWrite {a : Byte} (hm : rom r = some (.addr a)) (hp : phaseOfStatus st = .started)
    (hd : dirRead a = false) :
    Runs (as ++ answered [.ack]) s₀ (acts ++ [.sendByte a]) (standing s head (r + 1#6) (n + 2) .slawAck a buf) :=
  h.row (u := standing s head r n st a buf) (c := ⟨.slawAck, .tx, none⟩) ho hw hm rfl ⟨rfl, rfl⟩ hp
    (congrArg (completionRow .addr .started · .ack) hd) (fun _ => rfl) (by rw [expectedStatus, hd]; rfl) rfl

theorem Runs.addrRead {a : Byte} (hm : rom r = some (.addr a)) (hp : phaseOfStatus st = .started)
    (hd : dirRead a = true) :
    Runs (as ++ answered [.ack]) s₀ (acts ++ [.sendByte a]) (standing s head (r + 1#6) (n + 2) .slarAck a buf) :=
  h.row (u := standing s head r n st a buf) (c := ⟨.slarAck, .rx, none⟩) ho hw hm rfl ⟨rfl, rfl⟩ hp
    (congrArg (completionRow .addr .started · .ack) hd) (fun _ => rfl) hd rfl

theorem Runs.write {b : Byte} (hm : rom r = some (.write b)) (hp : phaseOfStatus st = .tx) :
    Runs (as ++ answered [.ack]) s₀ (acts ++ [.sendByte b]) (standing s head (r + 1#6) (n + 2) .dataTxAck b buf) :=
  h.row (u := standing s head r n st b buf) (c := ⟨.dataTxAck, .tx, none⟩) ho hw hm rfl ⟨rfl, rfl⟩ hp rfl
    (fun _ => rfl) rfl rfl

theorem Runs.readAck {k : Fin 6} (hm : rom r = some (.read k true)) (hp : phaseOfStatus st = .rx) (b : Byte) :
    Runs (as ++ answered [.byte b]) s₀ (acts ++ [.receiveByte true])
      (standing s head (r + 1#6) (n + 2) .dataRxAck b (buf.set k b)) :=
  h.row (u := standing s head r n st d buf) (c := ⟨.dataRxAck, .rx, some b⟩) ho hw hm rfl ⟨rfl, rfl⟩ hp rfl
    (fun _ => rfl) rfl rfl

theorem Runs.readNack {k : Fin 6} (hm : rom r = some (.read k false)) (hp : phaseOfStatus st = .rx) (b : Byte) :
    Runs (as ++ answered [.byte b]) s₀ (acts ++ [.receiveByte false])
      (standing s head (r + 1#6) (n + 2) .dataRxNack b (buf.set k b)) :=
  h.row (u := standing s head r n st d buf) (c := ⟨.dataRxNack, .rxend, some b⟩) ho hw hm rfl ⟨rfl, rfl⟩ hp rfl
    (fun _ => rfl) rfl rfl

theorem Runs.stop (hm : rom r = some .stop) (hp : phaseOfStatus st ≠ .idle) :
    Runs (as ++ answered [.ok]) s₀ (acts ++ [.stop]) (standing s head (r + 1#6) (n + 2) .idle d buf) :=
  h.row (u := standing s head r n st d buf) (c := ⟨.idle, .idle, none⟩) ho hw hm (if_neg hp) ⟨rfl, rfl⟩ rfl
    (completionRow_stop hp _) (fun armed => (admits_stop_iff (by decide) (by decide)).mpr ⟨hp, rfl⟩) rfl rfl

end

/-- A row that issues nothing takes one cycle. -/
theorem Runs.micro {as : List (Option BusOutcome)} {s₀ s : State} {acts : List BusAction} (h : Runs as s₀ acts s)
    {m : MicroOp} (ho : s.opState = .idle) (hw : s.waiting = false) (hm : rom s.upc = some m) :
    Runs (as ++ [none]) s₀ acts (countDelay (execMicro m s)) := by
  have hcycle : clockCycle none s = countDelay (execMicro m s) := by rw [clockCycle, coreCycle_of_micro ho hw hm]
  exact (List.append_nil acts) ▸ h.trans ⟨hcycle, rfl⟩

/-! ### Transactions -/

/-- A WAIT of `ms` milliseconds is over (R210). -/
def waited (ms : Nat) (s : State) : State :=
  { s with waitcnt := 0#32, upc := s.upc + 1#6, hostDelay := s.hostDelay - (ms * Config.cyclesPerMs + 1) }

/-- A WAIT row takes its entry step and `ms` milliseconds of cycles, and the bus sees nothing of it. -/
theorem runs_wait {s : State} {ms : Nat} (ho : s.opState = .idle) (hw : s.waiting = false)
    (hm : rom s.upc = some (.wait ms)) :
    Runs (List.replicate (ms * Config.cyclesPerMs + 1) none) s [] (waited ms s) where
  state := by
    have hlast := (waitLastsExactly s ms (List.replicate (ms * Config.cyclesPerMs + 1) none) ho hw hm).2
    rw [List.length_replicate] at hlast
    exact hlast rfl
  seen := busSeen_unanswered _ s

/-- The micro-ops `ms` stand from row `r` on. -/
def StandsAt : Row → List MicroOp → Prop
  | _, [] => True
  | r, m :: ms => rom r = some m ∧ StandsAt (r + 1#6) ms

/-- The transaction of the status read (R222), from the state before its START. -/
theorem runs_statusRead {s : State} (ho : s.opState = .idle) (hw : s.waiting = false) (hp : s.phase = .idle)
    (hrows : StandsAt s.upc [.start true, .addr Config.addrByteW, .write Config.cmdStatus, .start false,
      .addr Config.addrByteR, .read 0 true, .stop]) (b : Byte) :
    Runs (answered [.ok, .ack, .ack, .ok, .ack, .byte b, .ok]) s
      [.start, .sendByte 0x70#8, .sendByte 0x71#8, .repeatedStart, .sendByte 0x71#8, .receiveByte true, .stop]
      (standing s s.upc (s.upc + 7#6) 14 .idle b { s.buf with b0 := b }) := by
  obtain ⟨hstart, haddrW, hwrite, hrestart, haddrR, hread, hstop, -⟩ := hrows
  have hrun := runs_start ho hw hp hstart
    |>.addrWrite ho hw haddrW rfl rfl |>.write ho hw hwrite rfl |>.restart ho hw hrestart rfl
    |>.addrRead ho hw haddrR rfl rfl |>.readAck ho hw hread rfl b |>.stop ho hw hstop (by decide)
  have hrow : s.upc + 7#6 = s.upc + 1#6 + 1#6 + 1#6 + 1#6 + 1#6 + 1#6 + 1#6 := by simp [BitVec.add_assoc]
  rw [hrow]
  exact hrun

/-- The transaction that sends a command and its two parameters (R223, R224), from the state before its START. -/
theorem runs_commandWrite {s : State} {x y z : Byte} (ho : s.opState = .idle) (hw : s.waiting = false)
    (hp : s.phase = .idle)
    (hrows : StandsAt s.upc [.start true, .addr Config.addrByteW, .write x, .write y, .write z, .stop]) :
    Runs (answered [.ok, .ack, .ack, .ack, .ack, .ok]) s
      [.start, .sendByte 0x70#8, .sendByte x, .sendByte y, .sendByte z, .stop]
      (standing s s.upc (s.upc + 6#6) 12 .idle z s.buf) := by
  obtain ⟨hstart, haddr, hx, hy, hz, hstop, -⟩ := hrows
  have hrun := runs_start ho hw hp hstart
    |>.addrWrite ho hw haddr rfl rfl |>.write ho hw hx rfl |>.write ho hw hy rfl |>.write ho hw hz rfl
    |>.stop ho hw hstop (by decide)
  have hrow : s.upc + 6#6 = s.upc + 1#6 + 1#6 + 1#6 + 1#6 + 1#6 + 1#6 := by simp [BitVec.add_assoc]
  rw [hrow]
  exact hrun

/-- The six reads of a measurement (R224), from the state before the START. -/
theorem runs_measureRead {s : State} (ho : s.opState = .idle) (hw : s.waiting = false) (hp : s.phase = .idle)
    (hrows : StandsAt s.upc [.start true, .addr Config.addrByteR, .read 0 true, .read 1 true, .read 2 true,
      .read 3 true, .read 4 true, .read 5 false, .stop]) (rd : Reading) :
    Runs (answered [.ok, .ack, .byte rd.b0, .byte rd.b1, .byte rd.b2, .byte rd.b3, .byte rd.b4, .byte rd.b5, .ok]) s
      [.start, .sendByte 0x71#8, .receiveByte true, .receiveByte true, .receiveByte true, .receiveByte true,
        .receiveByte true, .receiveByte false, .stop]
      (standing s s.upc (s.upc + 9#6) 18 .idle rd.b5 rd) := by
  obtain ⟨hstart, haddr, h0, h1, h2, h3, h4, h5, hstop, -⟩ := hrows
  have hrun := runs_start ho hw hp hstart
    |>.addrRead ho hw haddr rfl rfl |>.readAck ho hw h0 rfl rd.b0 |>.readAck ho hw h1 rfl rd.b1
    |>.readAck ho hw h2 rfl rd.b2 |>.readAck ho hw h3 rfl rd.b3 |>.readAck ho hw h4 rfl rd.b4
    |>.readNack ho hw h5 rfl rd.b5 |>.stop ho hw hstop (by decide)
  have hrow : s.upc + 9#6 = s.upc + 1#6 + 1#6 + 1#6 + 1#6 + 1#6 + 1#6 + 1#6 + 1#6 + 1#6 := by simp [BitVec.add_assoc]
  rw [hrow]
  exact hrun

/-! ### The three sequences -/

/-- A sequence command from an idle state is accepted. -/
theorem exec_of_idle {i : Instr} {k : SeqKind} {s : State} (hi : sequenceOf i = some k) (hb : s.busy = false)
    (hp : s.phase = .idle) : exec i s = .next (acceptSequence k s) := by
  rw [exec_sequence hi, commandSequence_of_idle hb hp]

/-- Settles O45: the transaction of the status read from row 0, then SETSTAT and END. -/
theorem seqStatusSuccessPath : Obligations.SeqStatusSuccessPath := by
  intro s b hb hp ho hw
  have hread := runs_statusRead (s := acceptSequence .status s) ho hw hp
    ⟨rfl, rfl, rfl, rfl, rfl, rfl, rfl, trivial⟩ b
  have hsetstat := hread.micro (m := .setstat) ho hw rfl
  have hend := hsetstat.micro (m := .endSeq) ho hw rfl
  refine ⟨_, exec_of_idle rfl hb hp, hend.state.trans ?_, hend.seen⟩
  rw [hp, tocntOnceCounted_eq]
  rfl

/-- SEQ_INIT as far as the transaction of its status read. -/
def initRead (b : Byte) (s : State) : State :=
  standing (waited 40 (acceptSequence .init s)) 10#6 17#6 14 .idle b { s.buf with b0 := b }

theorem runs_initRead {s : State} (hp : s.phase = .idle) (ho : s.opState = .idle) (hw : s.waiting = false) (b : Byte) :
    Runs (List.replicate (40 * Config.cyclesPerMs + 1) none ++ answered [.ok, .ack, .ack, .ok, .ack, .byte b, .ok])
      (acceptSequence .init s)
      [.start, .sendByte 0x70#8, .sendByte 0x71#8, .repeatedStart, .sendByte 0x71#8, .receiveByte true, .stop]
      (initRead b s) := by
  have hwait := runs_wait (s := acceptSequence .init s) (ms := 40) ho hw rfl
  exact hwait.trans (runs_statusRead (s := waited 40 (acceptSequence .init s)) ho hw hp
    ⟨rfl, rfl, rfl, rfl, rfl, rfl, rfl, trivial⟩ b)

/-- SETSTAT and BRCAL are done after it, and BRCAL has gone to row `r`. -/
def initBranched (b : Byte) (r : Row) (s : State) : State :=
  { initRead b s with sstat := b, upc := r, hostDelay := (initRead b s).hostDelay - 2 }

theorem runs_initBranch {s : State} (ho : s.opState = .idle) (hw : s.waiting = false) (b : Byte) :
    Runs [none, none] (initRead b s) [] (initBranched b (if b.getLsbD 3 then 26#6 else 19#6) s) := by
  have hrun := ((Runs.refl (initRead b s)).micro (m := .setstat) ho hw rfl).micro (m := .brcal 26#6) ho hw rfl
  refine ⟨hrun.state.trans ?_, hrun.seen⟩
  cases hbit : b.getLsbD 3 with
  | false => exact congrArg countDelay (if_neg (ne_true_of_eq_false hbit))
  | true => exact congrArg countDelay (if_pos hbit)

/-- Settles O46: the 40 ms wait and the status read of R222 from row 10; then BRCAL either goes to END at row 26, or the
command of row 19 is sent and row 25 waits 10 ms. -/
theorem seqInitSuccessPath : Obligations.SeqInitSuccessPath := by
  intro s b hb hp ho hw
  have hread := runs_initRead hp ho hw b
  have hbranch := runs_initBranch ho hw b
  refine ⟨_, exec_of_idle rfl hb hp, fun hset as has => ?_, fun hclear as has => ?_⟩
  · rw [hset] at hbranch
    have hend : Runs [none, none, none] (initRead b s) [] _ := hbranch.micro (m := .endSeq) ho hw rfl
    have hrun := hread.trans hend
    subst has
    rw [hrun.state]
    exact ⟨rfl, rfl, rfl, rfl, rfl, rfl, hrun.seen⟩
  · rw [hclear] at hbranch
    have hwrite := runs_commandWrite (s := initBranched b 19#6 s) ho hw rfl ⟨rfl, rfl, rfl, rfl, rfl, rfl, trivial⟩
    have hwait := runs_wait (s := standing (initBranched b 19#6 s) 19#6 25#6 12 .idle 0x00#8 { s.buf with b0 := b })
      (ms := 10) ho hw rfl
    have hrun := (((hread.trans hbranch).trans hwrite).trans hwait).micro (m := .endSeq) ho hw rfl
    subst has
    rw [hrun.state]
    exact ⟨rfl, rfl, rfl, rfl, rfl, rfl, hrun.seen⟩

/-- SEQ_MEASURE as far as the transaction of its trigger. -/
def triggered (s : State) : State := standing (acceptSequence .measure s) 27#6 33#6 12 .idle 0x00#8 s.buf

/-- SEQ_MEASURE as far as the six reads: the trigger, the 80 ms wait and the transaction of row 34. -/
def measureRead (rd : Reading) (s : State) : State :=
  standing (waited 80 (triggered s)) 34#6 43#6 18 .idle rd.b5 rd

theorem runs_measureSequence {s : State} (hp : s.phase = .idle) (ho : s.opState = .idle) (hw : s.waiting = false)
    (rd : Reading) :
    Runs (answered [.ok, .ack, .ack, .ack, .ack, .ok] ++ List.replicate (80 * Config.cyclesPerMs + 1) none
        ++ answered [.ok, .ack, .byte rd.b0, .byte rd.b1, .byte rd.b2, .byte rd.b3, .byte rd.b4, .byte rd.b5, .ok])
      (acceptSequence .measure s)
      [.start, .sendByte 0x70#8, .sendByte 0xAC#8, .sendByte 0x33#8, .sendByte 0x00#8, .stop,
        .start, .sendByte 0x71#8, .receiveByte true, .receiveByte true, .receiveByte true, .receiveByte true,
        .receiveByte true, .receiveByte false, .stop] (measureRead rd s) := by
  have hwrite := runs_commandWrite (s := acceptSequence .measure s) ho hw hp
    ⟨rfl, rfl, rfl, rfl, rfl, rfl, trivial⟩
  have hwait := runs_wait (s := triggered s) (ms := 80) ho hw rfl
  have hread := runs_measureRead
    (s := waited 80 (triggered s)) ho hw rfl
    ⟨rfl, rfl, rfl, rfl, rfl, rfl, rfl, rfl, rfl, trivial⟩ rd
  exact (hwrite.trans hwait).trans hread

/-- COMMIT, and BRBUSY with RAW0[7] = 0, follow the six reads. -/
theorem runs_measureCommit {s : State} (ho : s.opState = .idle) (hw : s.waiting = false) {rd : Reading}
    (hbusy : rd.b0.getLsbD 7 = false) :
    Runs [none, none] (measureRead rd s) [] (countDelay (nextRow (countDelay (microCommit (measureRead rd s))))) := by
  have hcommit := (Runs.refl (measureRead rd s)).micro (m := .commit) ho hw rfl
  have hskip : execMicro (.brbusy 33#6) (countDelay (microCommit (measureRead rd s)))
      = nextRow (countDelay (microCommit (measureRead rd s))) := if_neg (ne_true_of_eq_false hbusy)
  exact hskip ▸ hcommit.micro (m := .brbusy 33#6) ho hw rfl

/-- Settles O47: trigger, wait, six reads and COMMIT as above; BRBUSY falls through, and END finishes. -/
theorem seqMeasureSuccessPath : Obligations.SeqMeasureSuccessPath := by
  intro s rd hb hp ho hw hbusy
  refine ⟨_, exec_of_idle rfl hb hp, fun as has => ?_⟩
  have hend := (runs_measureCommit ho hw hbusy).micro (m := .endSeq) ho hw rfl
  have hrun := (runs_measureSequence hp ho hw rd).trans hend
  have hlength : as.length = 12 + (80 * Config.cyclesPerMs + 1) + 21 := by
    simp [has, answered]
    omega
  rw [hlength, ← Nat.sub_sub, ← Nat.sub_sub, hp, tocntOnceCounted_eq]
  subst has
  exact ⟨hrun.state.trans rfl, hrun.seen⟩

end Sys2Proof.Machine
end

section
/-! Every command under way ends, with the timeout enabled (spec/41_sequencer.md R227): a measure of the work that is
left goes down in every clock cycle of a coherent, busy state. -/

namespace Sys2Proof.Machine

/-! ### The measure -/

/-- The restarts and re-reads that are left: each address NACK takes one (R219), each COMMIT another (R213). -/
def budgetLeft (s : State) : Nat :=
  (s.nackRetries.toNat - s.nackcnt.toNat) + (s.busyRetries.toNat + 1 - s.attempts.toNat)

/-- The place of a row on the way to the end of its sequence, while no budget is taken: BRBUSY (row 44) may lead back to
row 33, and RETRY (row 61) to a START. -/
def rowRank (r : Row) : Nat :=
  if r = 61#6 then 65 else if r = 44#6 then 64 else 64 - r.toNat

/-- What is left at the row: the counter of a primitive in flight or of a wait, and the most before either is loaded. -/
def cyclesAtRow (s : State) : Nat :=
  match s.opState with
  | .inFlight _ _ => s.tocnt.toNat
  | .idle | .stalled => if s.waiting then s.waitcnt.toNat else 2 ^ 32

/-- The work before the sequence's end, without the cycles at its row. -/
def rowsLeft (s : State) : Nat := budgetLeft s * 66 + rowRank s.upc

/-- A bound on the clock cycles until BUSY is 0. -/
def workLeft (s : State) : Nat := rowsLeft s * (2 ^ 32 + 1) + cyclesAtRow s

theorem rowRank_le (r : Row) : rowRank r ≤ 65 := by
  unfold rowRank
  split
  · exact le_rfl
  · split <;> omega

theorem cyclesAtRow_le (s : State) : cyclesAtRow s ≤ 2 ^ 32 := by
  have htocnt := s.tocnt.isLt
  have hwaitcnt := s.waitcnt.isLt
  unfold cyclesAtRow
  split
  · exact htocnt.le
  all_goals
    split
    · exact hwaitcnt.le
    · exact le_rfl

theorem cyclesAtRow_of_inFlight {s : State} {p : Prim} {origin : Origin} (h : s.opState = .inFlight p origin) :
    cyclesAtRow s = s.tocnt.toNat := by
  rw [cyclesAtRow, h]

theorem cyclesAtRow_of_waiting {s : State} (ho : s.opState = .idle) (hw : s.waiting = true) :
    cyclesAtRow s = s.waitcnt.toNat := by
  rw [cyclesAtRow, ho]
  exact if_pos hw

theorem cyclesAtRow_of_idle {s : State} (ho : s.opState = .idle) (hw : s.waiting = false) :
    cyclesAtRow s = 2 ^ 32 := by
  rw [cyclesAtRow, ho]
  exact if_neg (ne_true_of_eq_false hw)

/-- A step to a row with less left, whatever its cycles. -/
theorem workLeft_lt_of_rows {s t : State} (h : rowsLeft t < rowsLeft s) : workLeft t < workLeft s := by
  have hcycles := cyclesAtRow_le t
  unfold workLeft
  omega

/-- A cycle at the same row. -/
theorem workLeft_lt_of_cycles {s t : State} (hrow : rowsLeft t = rowsLeft s) (h : cyclesAtRow t < cyclesAtRow s) :
    workLeft t < workLeft s := by
  unfold workLeft
  omega

theorem rowsLeft_lt_of_rank {s t : State} (hbudget : budgetLeft t = budgetLeft s)
    (h : rowRank t.upc < rowRank s.upc) : rowsLeft t < rowsLeft s := by
  unfold rowsLeft
  omega

theorem rowsLeft_lt_of_budget {s t : State} (h : budgetLeft t < budgetLeft s) : rowsLeft t < rowsLeft s := by
  have := rowRank_le t.upc
  unfold rowsLeft
  omega

/-- Going on to the next row; COMMIT, before BRBUSY, takes of the budget instead. -/
theorem rowRank_next {r : Row} {m : MicroOp} (hm : rom r = some m) (hgo : goesOn m = true) (hc : m ≠ .commit) :
    rowRank (r + 1#6) < rowRank r := by
  have key := of_rom (P := fun r m => !goesOn m || decide (m = .commit) || decide (rowRank (r + 1#6) < rowRank r))
    (by decide) hm
  simpa [hgo, hc] using key

theorem rowRank_abort {r : Row} (habort : r ≠ 62#6) (hend : r ≠ 63#6) : rowRank 62#6 < rowRank r := by
  revert r
  decide

theorem rowRank_retry {r : Row} (h : r ≠ 61#6) : rowRank r < rowRank 61#6 := by
  revert r
  decide

/-! ### The sequencer -/

theorem rowsLeft_abortWith {s : State} {ph : Phase} (h : MayStandAt s s.upc ph) (hr : s.upc ≠ 62#6) (e : ErrKind) :
    rowsLeft (abortWith e s) < rowsLeft s :=
  rowsLeft_lt_of_rank (by simp [budgetLeft]) (rowRank_abort hr (rowOfKind_upc_ne h.kind h.row))

/-- The cycle in which a row issues its primitive. -/
theorem workLeft_issue {s : State} (ho : s.opState = .idle) (hw : s.waiting = false) (p : Prim) :
    workLeft (issue p s) < workLeft s :=
  workLeft_lt_of_cycles rfl (by
    rw [cyclesAtRow_of_idle ho hw]
    exact (timeoutLoad s).isLt)

/-- Every micro-op of a running sequence ends it or leaves less to do (R205 to R221). -/
theorem microStep_progress {s t : State} {m : MicroOp} (h : MayStandAt s s.upc s.phase) (ho : s.opState = .idle)
    (hw : s.waiting = false) (hm : rom s.upc = some m) (hstep : MicroStep m s t) :
    t.busy = false ∨ workLeft t < workLeft s := by
  cases hstep with
  | start head e => exact .inr (workLeft_issue (s := { s with txhead := if head then s.upc else s.txhead }) ho hw _)
  | addr a e | write a e => exact .inr (workLeft_issue (s := { s with data := a }) ho hw _)
  | read k ack e | stop e hp => exact .inr (workLeft_issue ho hw _)
  | idleStop e hp | setstat e =>
    subst e
    exact .inr (workLeft_lt_of_rows (rowsLeft_lt_of_rank rfl (rowRank_next hm rfl (by decide))))
  | wait ms e =>
    refine .inr (workLeft_lt_of_cycles rfl ?_)
    rw [cyclesAtRow_of_idle ho hw,
      cyclesAtRow_of_waiting (s := { s with waitcnt := waitLoad ms, waiting := true }) ho rfl]
    exact (waitLoad ms).isLt
  | commit e =>
    subst e
    obtain ⟨hcount, hle⟩ := h.commit_count hm
    refine .inr (workLeft_lt_of_rows (rowsLeft_lt_of_budget (Nat.add_lt_add_left ?_ _)))
    show s.busyRetries.toNat + 1 - (s.attempts + 1#9).toNat < s.busyRetries.toNat + 1 - s.attempts.toNat
    omega
  | goto r e =>
    refine .inr (workLeft_lt_of_rows (rowsLeft_lt_of_rank rfl ?_))
    show rowRank r < rowRank s.upc
    rcases e with ⟨rfl, -⟩ | ⟨⟨r', rfl⟩, -, rfl⟩ | ⟨rfl, -, -⟩ | ⟨⟨r', rfl⟩, -, rfl⟩ | ⟨rfl, hp, -⟩
    · obtain ⟨hr, rfl⟩ := eq_of_rom_brcal hm
      rw [hr]
      decide
    · exact rowRank_next hm rfl (by simp)
    · obtain ⟨hr, rfl⟩ := eq_of_rom_brbusy hm
      rw [hr]
      decide
    · exact rowRank_next hm rfl (by simp)
    · have hphase := phaseForOp_of_row hm h.phase
      simp [phaseForOp, hp] at hphase
  | busy r e hb ha =>
    subst e
    exact .inr (workLeft_lt_of_rows (rowsLeft_abortWith h (by rw [(eq_of_rom_brbusy hm).1]; decide) _))
  | finish e => exact .inl rfl

/-- Every end of a row does (R204, R218 to R220). -/
theorem rowEnd_progress {s t : State} {ph : Phase} (hend : RowEnd s t) (h : MayStandAt s s.upc ph) :
    t.busy = false ∨ rowsLeft t < rowsLeft s := by
  cases hend with
  | next m b hm he =>
    have hcommit : m ≠ .commit := by rintro rfl; cases hs : s.status <;> simp [expectedStatus] at he
    exact .inr (rowsLeft_lt_of_rank rfl (rowRank_next hm (goesOn_of_expected he) hcommit))
  | retry a hm hs hn =>
    have := s.nackRetries.isLt
    have hcount : (s.nackcnt + 1#4).toNat = s.nackcnt.toNat + 1 := by
      rw [BitVec.toNat_add, BitVec.toNat_ofNat]
      omega
    refine .inr (rowsLeft_lt_of_budget (Nat.add_lt_add_right ?_ _))
    show s.nackRetries.toNat - (s.nackcnt + 1#4).toNat < s.nackRetries.toNat - s.nackcnt.toNat
    omega
  | abort e hr he hp => exact .inr (rowsLeft_abortWith h hr e)
  | restart hr hs =>
    obtain ⟨-, -, -, -, hhead⟩ := head_of_retry (hr ▸ h.head)
    exact .inr (rowsLeft_lt_of_rank rfl (hr ▸ rowRank_retry hhead))
  | done hr u hu => exact .inl rfl

/-- A running sequence stands at a row that holds a micro-op (R203). -/
theorem rom_of_rowOfKind {k : SeqKind} {r : Row} (hk : k ≠ .none) (h : rowOfKind k r = true) :
    ∃ m, rom r = some m := by
  have key : ∀ r, k ≠ .none → rowOfKind k r = true → (rom r).isSome = true := by cases k <;> decide
  exact Option.isSome_iff_exists.mp (key r hk h)

/-! ### A clock cycle -/

/-- The primitive in flight completes (R154, R155). -/
theorem completeInFlight_progress {s : State} {p : Prim} {origin : Origin} {o : BusOutcome} {c : Completion}
    (h : Coherent s) (hs : s.opState = .inFlight p origin)
    (hc : completionRow p s.phase (dirRead s.data) o = some c) :
    (completeInFlight p origin o (countTimeout s)).busy = false
      ∨ workLeft (completeInFlight p origin o (countTimeout s)) < workLeft s := by
  cases origin with
  | host => exact .inl rfl
  | seq =>
    have hrun : Running s := h.mode.resolve_left fun hrest => hrest.notSeq p hs
    have hend := completeSeq_rowEnd (countTimeout_running hrun) hs hc
    exact (rowEnd_progress hend { hrun.stands with }).imp_right workLeft_lt_of_rows

/-- The counter of a primitive in flight goes down, for it was armed (R170). -/
theorem workLeft_countTimeout {s : State} {p : Prim} {origin : Origin} (hs : s.opState = .inFlight p origin)
    (ht : s.tocnt ≠ 0#32) : workLeft (countTimeout s) < workLeft s := by
  refine workLeft_lt_of_cycles rfl ?_
  rw [cyclesAtRow_of_inFlight (s := countTimeout s) hs, cyclesAtRow_of_inFlight hs, countTimeout_tocnt, if_neg ht]
  bv_omega

/-- A cycle of a wait (R210). -/
theorem waitCycle_progress {s : State} (hrun : Running s) (ho : s.opState = .idle) (hw : s.waiting = true) :
    workLeft (waitCycle s) < workLeft s := by
  obtain ⟨-, ms, hm, hpos, -⟩ := hrun.wait hw
  rcases waitCycle_cases s with ⟨-, e⟩ | ⟨-, e⟩ <;> rw [e]
  · exact workLeft_lt_of_rows (rowsLeft_lt_of_rank rfl (rowRank_next hm rfl (by simp)))
  · refine workLeft_lt_of_cycles rfl ?_
    rw [cyclesAtRow_of_waiting (s := { s with waitcnt := s.waitcnt - 1#32 }) ho hw, cyclesAtRow_of_waiting ho hw]
    bv_omega

/-- With the timeout enabled, every cycle of a busy, coherent state ends the command or leaves less to do. -/
theorem coreCycle_progress {s : State} (h : Coherent s) (hb : s.busy = true) (htm : s.timeoutMs ≠ 0#8)
    (answer : Option BusOutcome) :
    (coreCycle answer s).busy = false ∨ workLeft (coreCycle answer s) < workLeft s := by
  rcases coreCycle_cases answer s with ⟨p, origin, hs, e⟩ | ⟨hs, -⟩ | ⟨hs, hw, e⟩ | ⟨hs, hw, e⟩
  · have harmed : s.tocnt ≠ 0#32 := fun e => htm ((h.timer.armed p origin hs).mp e)
    rw [e]
    rcases inFlightCycle_cases p origin answer s with ⟨hb, -⟩ | ⟨o, ho, hb, e⟩ | ⟨-, -, e⟩ | ⟨-, -, e⟩
    · obtain ⟨-, -, ha⟩ := busAnswer_some hb
      rw [admits_stall] at ha
      exact absurd (by simpa using ha) harmed
    · obtain ⟨-, -, ha⟩ := busAnswer_some hb
      obtain ⟨c, hc⟩ := completionRow_of_admits ha ho (dirRead s.data)
      exact e ▸ completeInFlight_progress h hs hc
    · exact e ▸ completeInFlight_progress h hs (completionRow_timeout _ _ _)
    · exact .inr (e ▸ workLeft_countTimeout hs harmed)
  · exact absurd (h.timer.stalled hs) htm
  · have hrun : Running s := h.mode.resolve_left fun hrest => by simp [hrest.waiting] at hw
    exact .inr (e ▸ waitCycle_progress hrun hs hw)
  · have hrun : Running s := h.mode.resolve_left fun hrest => hrest.busy.mp hb hs
    obtain ⟨m, hm⟩ : ∃ m, rom s.upc = some m := rom_of_rowOfKind hrun.stands.kind hrun.stands.row
    rw [e, sequencerStep, hm]
    exact microStep_progress hrun.stands hs hw hm (execMicro_step m s)

/-- With BUSY = 0 the core stands still (R33, R202). -/
theorem coreCycle_of_not_busy {s : State} (h : Coherent s) (hb : s.busy = false) (answer : Option BusOutcome) :
    coreCycle answer s = s := by
  obtain ⟨hrest, ho⟩ := h.resting_of_not_busy hb
  have hrom : rom s.upc = none := by rw [hrest.upc]; rfl
  rcases coreCycle_cases answer s with ⟨p, origin, hs, -⟩ | ⟨hs, -⟩ | ⟨-, hw, -⟩ | ⟨-, -, e⟩
  · cases ho.symm.trans hs
  · cases ho.symm.trans hs
  · cases hrest.waiting.symm.trans hw
  · rw [e, sequencerStep, hrom]

theorem runCycles_of_not_busy {s : State} (h : Coherent s) (hb : s.busy = false) (answers : List (Option BusOutcome)) :
    (runCycles answers s).busy = false := by
  induction answers generalizing s with
  | nil => exact hb
  | cons a as ih =>
    have hcycle : clockCycle a s = countDelay s := congrArg countDelay (coreCycle_of_not_busy h hb a)
    rw [runCycles, hcycle]
    exact ih (countDelay_coherent h) hb

theorem runCycles_finishes {s : State} (h : Coherent s) (htm : s.timeoutMs ≠ 0#8)
    (answers : List (Option BusOutcome)) (hlen : workLeft s < answers.length) : (runCycles answers s).busy = false := by
  induction answers generalizing s with
  | nil => exact absurd hlen (Nat.not_lt_zero _)
  | cons a as ih =>
    cases hb : s.busy with
    | false => exact runCycles_of_not_busy h hb (a :: as)
    | true =>
      have hcycle : Coherent (clockCycle a s) := countDelay_coherent (coreCycle_coherent h a)
      obtain ⟨-, -, -, -, hkept⟩ := coreStep_config (coreCycle_step a s)
      rw [List.length_cons] at hlen
      rcases coreCycle_progress h hb htm a with hdone | hless
      · exact runCycles_of_not_busy hcycle hdone as
      · have hwork : workLeft (clockCycle a s) < workLeft s := hless
        exact ih hcycle (fun e => htm (hkept.symm.trans e)) (by omega)

/-- Settles O48: no more cycles than `workLeft`, and one. -/
theorem everySequenceFinishes : Obligations.EverySequenceFinishes := by
  intro s hinv htm
  exact ⟨workLeft s + 1, fun answers hlen => runCycles_finishes ((inv_iff_coherent s).mp hinv) htm answers hlen⟩

end Sys2Proof.Machine
end
